-- ==== Sys2Proof/Word.lean ====
section
/-! DEFINITION. The word types of the block: the widths the spec gives its registers and ports. -/

namespace Sys2Proof

/-- One byte: a channel of a pixel, a command operand, `PIN` (`00_scope.md` R5, `30_encoding.md` R60). -/
abbrev Byte := BitVec 8

/-- A command word of format C16 (`30_encoding.md` R60). -/
abbrev CommandWord := BitVec 16

/-- A timestamp, the value of `now_ms`, a response (`10_state.md` R10, R13, R25). -/
abbrev Word32 := BitVec 32

/-- A pixel `{G, R, B}`: green in bits 23:16, red in 15:8, blue in 7:0 (`10_state.md` R11). -/
abbrev Pixel := BitVec 24

/-- A glyph word `GW[d]`: bit `i` is cell `i` of the buffer (`10_state.md` R23). -/
abbrev GlyphWord := BitVec 25

end Sys2Proof
end

