-- ==== Sys2Proof/Config.lean ====
section
/-! DEFINITION. The parameters of the block (`00_scope.md` R5), its input ports, and the two values the spec leaves
open: the glyph table and the environment's inputs. -/

namespace Sys2Proof

/-- The levels on the input ports at one rising edge of `clk` (`10_state.md` R10); `rst_n` is in the kind of
`Event`. A pin level `true` is 1, released. -/
structure Ports where
  cmdValid : Bool
  cmd      : CommandWord
  nowMs    : Word32
  btnAN    : Bool
  btnBN    : Bool
  tgAvail  : BitVec 2
  deriving DecidableEq, Repr, Inhabited

/-- What moves the block (`30_encoding.md` R66): a rising edge of `clk` with `rst_n = 1` and these port levels, or
`rst_n = 0` (it falls, or stays low over an edge of `clk`; `70_reset_and_hazards.md` R210). -/
inductive Event where
  | reset
  | tick (p : Ports)
  deriving DecidableEq, Repr, Inhabited

namespace Config

/-- Rows and columns of the grid (R5). -/
abbrev rows : Nat := 5
abbrev cols : Nat := 5
/-- Pixels in the buffer (R5). -/
abbrev nPix : Nat := 25
/-- Bytes and bits of a frame (R5). -/
abbrev frameBytes : Nat := 75
abbrev frameBits : Nat := 600
/-- Bits a second on the line (R5). -/
abbrev bitRate : Nat := 800000
/-- The gap's minimum in microseconds (R5). -/
abbrev gapUs : Nat := 100
/-- The debounce interval in milliseconds (R5). -/
abbrev debounceMs : Nat := 200
/-- Clock frequency in Hz (R5, decision D3). -/
abbrev fClk : Nat := 8000000
/-- Ticks in a bit period (R5, decision D3). -/
abbrev tbit : Nat := 10
/-- Ticks the line is high in a 0 bit and in a 1 bit (R5, decision D4). -/
abbrev t0h : Nat := 3
abbrev t1h : Nat := 6
/-- Ticks of the idle gap (R5, decision D5). -/
abbrev gapTicks : Nat := 800

/-- The ten glyph words of the part (`10_state.md` R23, `41_matrix_renderer.md` R117). The spec gives no bitmap, so
the table has no body here: nothing can be proved about its values. DESIGN CHOICE, log 3. -/
opaque glyph : Vector GlyphWord 10

/-- The placeholder table `GLYPH_REF` of `41_matrix_renderer.md` R118. It is not the part's data: only tests use it. -/
def glyphRef : Vector GlyphWord 10 :=
  #v[0x1F8C63F#25, 0x0E210C4#25, 0x1F0FE1F#25, 0x1F87E1F#25, 0x1087E31#25,
     0x1F87C3F#25, 0x1F8FC3F#25, 0x042221F#25, 0x1F8FE3F#25, 0x1F87E3F#25]

/-- The `n`-th event the environment supplies beyond the listed ones: any port levels, any time, or a reset
(`93_implementation_defined.md` U5, U6, U8, U9, U16: "draw"). It has no body. DESIGN CHOICE, log 1. -/
opaque drawEvent : Nat → Event

end Config
end Sys2Proof
end

