-- ==== Sys2Proof/Syntax.lean ====
section
/-! DEFINITION. The commands of DMC-1 (`30_encoding.md`), the fields of a command word, and the reasons a word is
illegal. -/

namespace Sys2Proof

/-- The fields of a command word in format C16 (`30_encoding.md` R60). -/
structure C16 where
  op  : BitVec 4
  rsv : BitVec 4
  arg : Byte
  deriving DecidableEq, Repr

/-- The five commands, one constructor per row of the opcode table (`30_encoding.md` R62). The operand is the
unsigned 8-bit `arg` (R61); every value of it is a legal word (R65). -/
inductive Instr where
  /-- `INIT pin`: claim a timing generator (R81). -/
  | init (pin : Byte)
  /-- `WR`: send the pixel buffer as one frame (R84). -/
  | wr
  /-- `DIG d`: compose digit `d` and send it (R111). -/
  | dig (d : Byte)
  /-- `CHR c`: route a received byte (R114). -/
  | chr (c : Byte)
  /-- `RD n`: read register number `n` (R150). -/
  | rd (n : Byte)
  deriving DecidableEq, Repr

/-- Why a word is illegal: the three classes of `30_encoding.md` R64. -/
inductive Illegal where
  /-- `rsv` is not 0. -/
  | reservedField
  /-- `op` is none of 1 to 5. -/
  | unassignedOp
  /-- `op = 2` (`WR`) with an `arg` that is not 0. -/
  | wrArgument
  deriving DecidableEq, Repr

end Sys2Proof
end

