-- ==== Sys2Proof/WellFormed.lean ====
section
/-! DEFINITION. The form checks of a command word's fields (`30_encoding.md` R60, R64). An operand needs no check of
its own: it is an 8-bit field and every value of it is a legal word (R65). -/

namespace Sys2Proof
namespace C16

/-- "reserved, must be 0b0000" (R60). -/
def rsvOk (f : C16) : Bool := f.rsv == 0

/-- The operation codes 1 to 5 are assigned, the others are illegal (R62, R64). -/
def opOk (f : C16) : Bool := 1 ≤ f.op && f.op ≤ 5

/-- `WR` takes no operand: "`arg` must be 0" (R61, R64). -/
def wrArgOk (f : C16) : Bool := f.op != 2 || f.arg == 0

/-- The fields form a legal word (R64). -/
def wellFormed (f : C16) : Bool := f.rsvOk && f.opOk && f.wrArgOk

end C16
end Sys2Proof
end

