-- ==== Sys2Proof/Decode.lean ====
section
/-! DEFINITION. The decoder of `30_encoding.md` R63, total on all 65 536 words and rejecting by name, then the
encoder from the table of R62. -/

namespace Sys2Proof

/-- The fields of a word (R60): `op` 15:12, `rsv` 11:8, `arg` 7:0. -/
def splitWord (w : CommandWord) : C16 :=
  ⟨w.extractLsb' 12 4, w.extractLsb' 8 4, w.extractLsb' 0 8⟩

/-- The decoding algorithm of R63; an illegal word is named by its class (R64). -/
def decode (w : CommandWord) : Except Illegal Instr :=
  let f := splitWord w
  if f.rsv ≠ 0 then .error .reservedField
  else if f.op = 0x1 then .ok (.init f.arg)
  else if f.op = 0x2 then (if f.arg = 0 then .ok .wr else .error .wrArgument)
  else if f.op = 0x3 then .ok (.dig f.arg)
  else if f.op = 0x4 then .ok (.chr f.arg)
  else if f.op = 0x5 then .ok (.rd f.arg)
  else .error .unassignedOp

/-- The instruction the decoder reads from the table's numbering: one 16-bit word, bit 0 its least significant bit;
the bits from `nbits` up are 0. -/
def decodeTableWord (nbits w : Nat) : Option Instr :=
  (decode (BitVec.ofNat 16 (w % 2 ^ nbits))).toOption

/-- `op` and `arg` of each command (R61, R62); `rsv` is 0. -/
def Instr.fields : Instr → C16
  | .init pin => ⟨0x1, 0, pin⟩
  | .wr       => ⟨0x2, 0, 0⟩
  | .dig d    => ⟨0x3, 0, d⟩
  | .chr c    => ⟨0x4, 0, c⟩
  | .rd n     => ⟨0x5, 0, n⟩

/-- The word of a command: `{op, rsv, arg}` (R60). -/
def encode (i : Instr) : CommandWord :=
  let f := i.fields
  f.op ++ f.rsv ++ f.arg

/-- A command is well formed when its fields are; `every_instr_wellFormed` says that every command is. -/
def Instr.wellFormed (i : Instr) : Bool := i.fields.wellFormed

/-- The `match` and `mask` columns of the opcode table's row of a command (R62). -/
def Instr.tableRow : Instr → CommandWord × CommandWord
  | .init _ => (0x1000, 0xFF00)
  | .wr     => (0x2000, 0xFFFF)
  | .dig _  => (0x3000, 0xFF00)
  | .chr _  => (0x4000, 0xFF00)
  | .rd _   => (0x5000, 0xFF00)

/-! The pseudo-commands of R67. -/

/-- `RD STATUS`, `RD LEVEL`, `RD FLAGS`, `RD TS_A`, `RD TS_B`, `RD PIN` (R67). -/
def rdStatus : Instr := .rd 0x00
def rdLevel : Instr := .rd 0x01
def rdFlags : Instr := .rd 0x02
def rdTsA : Instr := .rd 0x03
def rdTsB : Instr := .rd 0x04
def rdPin : Instr := .rd 0x05

/-- `RD PIX[i]` is `RD 0x10+i` (R67). -/
def rdPix (i : Fin 25) : Instr := .rd (0x10 + BitVec.ofNat 8 i)

/-- `CHR 'x'` is `CHR` with the ASCII code of `x` (R67). -/
def chrOf (x : Char) : Instr := .chr (BitVec.ofNat 8 x.toNat)

end Sys2Proof
end

