-- ==== Sys2Proof/Machine/State.lean ====
section
/-! DEFINITION. The state of the block (`10_state.md`), the reasons a step can stop, and the state after reset
(`10_state.md` R27). -/

namespace Sys2Proof.Machine

/-- The phase of the serializer, `SER_STATE` (R17). -/
inductive SerPhase where
  | idle
  | shift
  | gap
  deriving DecidableEq, Repr

/-- The serializer's position (R17): `SER_STATE`, `POS`, `TICK`, `GAP_CNT`, the counters in their ranges
`FRAME_BITS` = 600, `TBIT` = 10, `GAP_TICKS` = 800 (log 8). -/
structure Serializer where
  phase  : SerPhase
  pos    : Fin 600
  tick   : Fin 10
  gapCnt : Fin 800
  deriving DecidableEq, Repr

/-- One button channel: the input flops `S0_X`, `S1_X`, `S2_X` (R24), `TS_X` (R13), `SEEN_X` (R14), `FLAG_X` (R15). -/
structure ButtonChannel where
  s0   : Bool
  s1   : Bool
  s2   : Bool
  ts   : Word32
  seen : Bool
  flag : Bool
  deriving DecidableEq, Repr

/-- The sticky error flags `ERR_RANGE`, `ERR_SEQ`, `ERR_ILL` (R16). -/
structure ErrorFlags where
  range : Bool
  seq   : Bool
  ill   : Bool
  deriving DecidableEq, Repr

/-- The LED chain driver's control: `INIT_OK` (R18), `TG_SEL` (R19, `true` is pool 1), `PIN` (R20). -/
structure Driver where
  initOk : Bool
  tgSel  : Bool
  pin    : Byte
  deriving DecidableEq, Repr

/-- The response register `RSP_VALID`, `RSP_DATA` (R25). -/
structure Response where
  valid : Bool
  data  : Word32
  deriving DecidableEq, Repr

/-- The open parameters of one part, which no step changes: `GLYPH` as the ten words `GW[d]` (R23) and
`TS_NEVER_AT_RESET` (R14). Logs 3 and 4. -/
structure Params where
  glyph          : Vector GlyphWord 10
  tsNeverAtReset : Bool
  deriving DecidableEq, Repr

/-- The environment's coming inputs, the model's own field: the listed events in order, then the free draws of
`Config.drawEvent`, numbered by `draws`. Log 1. -/
structure Env where
  feed  : List Event
  draws : Nat
  deriving DecidableEq, Repr

/-- The exceptions of `60_exceptions.md` R181 to R184. -/
inductive Exn where
  | rangeError
  | sequenceError
  | illegalCommand
  | fatalNoTimingGenerator
  deriving DecidableEq, Repr

/-- The whole state of the block (`10_state.md` R11 to R26), with its parameters and the coming inputs beside it. -/
structure State where
  /-- `PIX[0..24]` (R11). -/
  pix  : Vector Pixel 25
  /-- Button channel A. -/
  btnA : ButtonChannel
  /-- Button channel B. -/
  btnB : ButtonChannel
  err  : ErrorFlags
  drv  : Driver
  /-- `HALT` (R21). -/
  halt : Bool
  ser  : Serializer
  rsp  : Response
  par  : Params
  env  : Env
  deriving DecidableEq, Repr

/-- The reasons a step stops with a fault: none. Every exceptional outcome of the spec is a next state
(`60_exceptions.md` R189), and no behaviour of the block is undefined (`41_matrix_renderer.md` R119). -/
inductive Fault where
  deriving DecidableEq, Repr

/-- The reasons a step is refused. -/
inductive Refusal where
  /-- Raised by an arm of `exec` whose instruction has no meaning yet; no arm raises it now. Safe: the step stops. -/
  | notModelled (mnemonic : String)
  deriving DecidableEq, Repr

/-- A button channel after reset: the flops 1 (released), all else 0 (R27). -/
def ButtonChannel.atReset : ButtonChannel := ⟨true, true, true, 0, false, false⟩

/-- The state after reset (R27). The parameters are the part's own, `TS_NEVER_AT_RESET` at the spec's default
(`00_scope.md` R5); no event is listed (log 1). -/
def State.reset : State where
  pix  := Vector.replicate 25 0x000000#24
  btnA := ButtonChannel.atReset
  btnB := ButtonChannel.atReset
  err  := ⟨false, false, false⟩
  drv  := ⟨false, false, 0x00⟩
  halt := false
  ser  := ⟨.idle, 0, 0, 0⟩
  rsp  := ⟨false, 0⟩
  par  := ⟨Config.glyph, false⟩
  env  := ⟨[], 0⟩

end Sys2Proof.Machine
end

