-- ==== Sys2Proof/Machine/Operands.lean ====
section
/-! DEFINITION. The operand forms of the commands (`30_encoding.md` R61) and the index mapper (`20_memory.md` R41). -/

namespace Sys2Proof.Machine

/-! The index mapper (R41). -/

/-- `idx(r, c) = 5 * r + c` (R41). -/
def idx (r : Fin 5) (c : Fin 5) : Fin 25 := ⟨5 * r + c, by omega⟩

/-- `row(i) = i / 5` (R41). -/
def row (i : Fin 25) : Fin 5 := ⟨i / 5, by omega⟩

/-- `col(i) = i % 5` (R41). -/
def col (i : Fin 25) : Fin 5 := ⟨i % 5, by omega⟩

/-! The operands (R61). -/

/-- The digit operand of `DIG`: legal 0..9, else `none` (R61, R111). -/
def digitOf (d : Byte) : Option (Fin 10) :=
  if h : d.toNat ≤ 9 then some ⟨d.toNat, by omega⟩ else none

/-- The digit of a `CHR` byte: `c - 0x30` when `0x30 <= c <= 0x39`, else `none` (R61, R114). -/
def asciiDigitOf (c : Byte) : Option (Fin 10) :=
  if h : 0x30 ≤ c.toNat ∧ c.toNat ≤ 0x39 then some ⟨c.toNat - 0x30, by omega⟩ else none

/-- The pixel that register number `n = 0x10 + i` names (`10_state.md` R22), else `none`. -/
def pixelOf (n : Byte) : Option (Fin 25) :=
  if h : 0x10 ≤ n.toNat ∧ n.toNat ≤ 0x28 then some ⟨n.toNat - 0x10, by omega⟩ else none

/-- The defined register numbers: 0x00 to 0x05 and 0x10 to 0x28 (`20_memory.md` R50); the others are reserved
(`43_register_read.md` R158). -/
def registerDefined (n : Byte) : Bool := n.toNat ≤ 0x05 || (pixelOf n).isSome

end Sys2Proof.Machine
end

