-- ==== Sys2Proof/Machine/Flags.lean ====
section
/-! DEFINITION. The status, level and flag words (`10_state.md` R22, `43_register_read.md` R151 to R153) and the value
`RegRead(n)` (R151 to R158). -/

namespace Sys2Proof.Machine

/-- `LVL_X = not S1_X`: pressed is low (`42_button_core.md` R141). -/
def ButtonChannel.level (c : ButtonChannel) : Bool := !c.s1

/-- `STATUS = {ERR_ILL, ERR_SEQ, ERR_RANGE, 0, 0, TG_SEL, INIT_OK}`, 7 bits (R151). -/
def statusWord (s : State) : BitVec 7 :=
  BitVec.ofBool s.err.ill ++ BitVec.ofBool s.err.seq ++ BitVec.ofBool s.err.range ++ 0#2 ++
    BitVec.ofBool s.drv.tgSel ++ BitVec.ofBool s.drv.initOk

/-- `LEVEL = {LVL_B, LVL_A}` (R152). -/
def levelWord (s : State) : BitVec 2 := BitVec.ofBool s.btnB.level ++ BitVec.ofBool s.btnA.level

/-- `FLAGS = {FLAG_B, FLAG_A}` (R153). -/
def flagsWord (s : State) : BitVec 2 := BitVec.ofBool s.btnB.flag ++ BitVec.ofBool s.btnA.flag

/-- `zext_32(RegRead(n))`: the value `RD n` responds with (R151 to R158); 0 for a reserved number (R158). -/
def regRead (s : State) (n : Byte) : Word32 :=
  if n = 0x00 then (statusWord s).setWidth 32
  else if n = 0x01 then (levelWord s).setWidth 32
  else if n = 0x02 then (flagsWord s).setWidth 32
  else if n = 0x03 then s.btnA.ts
  else if n = 0x04 then s.btnB.ts
  else if n = 0x05 then s.drv.pin.setWidth 32
  else match pixelOf n with
    | some i => s.pix[i].setWidth 32
    | none => 0

end Sys2Proof.Machine
end

