-- ==== Sys2Proof/Machine/Ops.lean ====
section
/-! DEFINITION. The shared operations: the current event and its port levels, raising an exception, reset, the compose
step, `start_frame`, and the response register. -/

namespace Sys2Proof.Machine

/-! The environment's inputs (log 1). -/

/-- The `k`-th coming event, from 0: listed, else a free draw. -/
def Env.upcoming (e : Env) (k : Nat) : Event :=
  match e.feed[k]? with
  | some ev => ev
  | none => Config.drawEvent (e.draws + (k - e.feed.length))

/-- The current event is past. -/
def Env.advance (e : Env) : Env :=
  match e.feed with
  | _ :: rest => ⟨rest, e.draws⟩
  | [] => ⟨[], e.draws + 1⟩

/-- The event the next step consumes. -/
def State.event (s : State) : Event := s.env.upcoming 0

/-- Port levels that offer no command: buttons released, time 0, both pools free (`00_scope.md` R5's default of
`TG_AVAIL`). -/
def Ports.quiet : Ports := ⟨false, 0, 0, true, true, 0b11⟩

/-- The levels on the input ports at the coming tick. (At a reset event no rule reads a port.) -/
def State.ports (s : State) : Ports :=
  match s.event with
  | .tick p => p
  | .reset => Ports.quiet

/-- The event is past; nothing else changes. -/
def State.advance (s : State) : State := { s with env := s.env.advance }

/-! Exceptions (`60_exceptions.md` R181 to R190). There is no saved state, no vector, no mode and no return: entry is
the one write below (R189), and only `RESET` leaves what it wrote (R190). -/

/-- `raise E`: set the sticky flag of `E`, or `HALT` for the fatal one (R181 to R184, R186). -/
def State.raise (e : Exn) (s : State) : State :=
  match e with
  | .rangeError => { s with err := { s.err with range := true } }
  | .sequenceError => { s with err := { s.err with seq := true } }
  | .illegalCommand => { s with err := { s.err with ill := true } }
  | .fatalNoTimingGenerator => { s with halt := true }

/-- `RESET`: every state element takes its reset value (`70_reset_and_hazards.md` R210); the part's parameters and the
coming inputs are no state elements of the block. -/
def State.applyReset (s : State) : State :=
  { State.reset with par := s.par, env := s.env.advance }

/-! The pixel buffer (`10_state.md` R11, `41_matrix_renderer.md` R112, R113). -/

/-- `PIX[i].G = PIX[i][23:16]` (R11). -/
def greenOf (w : Pixel) : Byte := w.extractLsb' 16 8

/-- `PIX[i].R = PIX[i][15:8]` (R11). -/
def redOf (w : Pixel) : Byte := w.extractLsb' 8 8

/-- `PIX[i].B = PIX[i][7:0]` (R11). -/
def blueOf (w : Pixel) : Byte := w.extractLsb' 0 8

/-- `RED = 0x00FF00`: full red in wire order green, red, blue (R113). -/
def RED : Pixel := 0x00FF00#24

/-- `BLACK = 0x000000` (R113). -/
def BLACK : Pixel := 0x000000#24

/-- `GLYPH[d][r][c]`, bit `5*r + c` of the word `GW[d]` (`10_state.md` R23). -/
def glyphLit (g : Vector GlyphWord 10) (d : Fin 10) (r : Fin 5) (c : Fin 5) : Bool :=
  g[d].getLsbD (idx r c)

/-- What the compose step writes to `PIX[i]`: `RED` for a lit cell, else `BLACK` (R112). -/
def cellColour (g : Vector GlyphWord 10) (d : Fin 10) (i : Fin 25) : Pixel :=
  if glyphLit g d (row i) (col i) then RED else BLACK

/-- `compose(d)`: all 25 pixels are written in one tick (R112). -/
def State.compose (d : Fin 10) (s : State) : State :=
  { s with pix := Vector.ofFn (cellColour s.par.glyph d) }

/-! The serializer's start and the response register. -/

/-- `start_frame`: `SER_STATE <- SHIFT; POS <- 0; TICK <- 0` (`40_led_chain_driver.md` R85). -/
def State.startFrame (s : State) : State :=
  { s with ser := { s.ser with phase := .shift, pos := 0, tick := 0 } }

/-- An accepted `RD`: `RSP_DATA <- v; RSP_VALID <- 1` (`10_state.md` R25). -/
def State.respond (v : Word32) (s : State) : State := { s with rsp := ⟨true, v⟩ }

/-- Every tick without an accepted `RD`: `RSP_VALID <- 0`, `RSP_DATA` unchanged (R25). -/
def State.clearResponse (s : State) : State := { s with rsp := { s.rsp with valid := false } }

/-- A successful claim of pool `sel`: `INIT_OK <- 1; TG_SEL <- sel; PIN <- pin` (`40_led_chain_driver.md` R81). -/
def State.claim (sel : Bool) (pin : Byte) (s : State) : State := { s with drv := ⟨true, sel, pin⟩ }

end Sys2Proof.Machine
end

