-- ==== Sys2Proof/Machine/Driver.lean ====
section
/-! DEFINITION. The LED chain driver's commands `INIT` and `WR` (`40_led_chain_driver.md` R81 to R85). -/

namespace Sys2Proof.Machine

/-- `INIT pin` (R81, R82, R83): claim the first free pool; a second `INIT` is a sequence error; no free pool is fatal. -/
def execInit (pin : Byte) (s : State) : Host.Outcome State Fault Refusal :=
  if s.drv.initOk then .next (s.raise .sequenceError)
  else if s.ports.tgAvail[0] then .next (s.claim false pin)
  else if s.ports.tgAvail[1] then .next (s.claim true pin)
  else .next (s.raise .fatalNoTimingGenerator)

/-- `WR` (R84): start a frame of the buffer as it is, or raise `SequenceError` before a successful `INIT`. -/
def execWr (s : State) : Host.Outcome State Fault Refusal :=
  if s.drv.initOk then .next s.startFrame else .next (s.raise .sequenceError)

end Sys2Proof.Machine
end

