-- ==== Sys2Proof/Machine/Read.lean ====
section
/-! DEFINITION. The command `RD` (`43_register_read.md` R150). -/

namespace Sys2Proof.Machine

/-- `RD n` (R150): respond with the register's value before the tick; a reserved number responds 0 and raises
`IllegalCommand` (R158). -/
def execRd (n : Byte) (s : State) : Host.Outcome State Fault Refusal :=
  if registerDefined n then .next (s.respond (regRead s n))
  else .next ((s.respond (regRead s n)).raise .illegalCommand)

end Sys2Proof.Machine
end

