-- ==== Sys2Proof/Machine/Renderer.lean ====
section
/-! DEFINITION. The matrix renderer's commands `DIG` and `CHR` (`41_matrix_renderer.md` R111, R114). -/

namespace Sys2Proof.Machine

/-- Compose digit `d` and send it, or raise `SequenceError` before a successful `INIT`: what `DIG` and `CHR` do with a
legal digit (R111, R114). -/
def State.display (d : Fin 10) (s : State) : State :=
  if s.drv.initOk then (s.compose d).startFrame else s.raise .sequenceError

/-- `DIG d` (R111): the range test and the sequence test are independent, so both flags can be set; a legal digit after
`INIT` is composed and sent. -/
def execDig (d : Byte) (s : State) : Host.Outcome State Fault Refusal :=
  match digitOf d with
  | some k => .next (s.display k)
  | none =>
    if s.drv.initOk then .next (s.raise .rangeError)
    else .next ((s.raise .rangeError).raise .sequenceError)

/-- `CHR c` (R114): an ASCII digit is displayed; any other byte changes nothing. -/
def execChr (c : Byte) (s : State) : Host.Outcome State Fault Refusal :=
  match asciiDigitOf c with
  | some k => .next (s.display k)
  | none => .next s

end Sys2Proof.Machine
end

