-- ==== Sys2Proof/Machine/Dispatch.lean ====
section
/-! DEFINITION. The meaning of every command, one arm each. -/

namespace Sys2Proof.Machine

/-- The effect of an accepted command on the tick that accepts it (its writes alone; `Step.lean` adds what every tick
does beside them). -/
def exec (i : Instr) (s : State) : Host.Outcome State Fault Refusal :=
  match i with
  | .init pin => Sys2Proof.Machine.execInit pin s
  | .wr => Sys2Proof.Machine.execWr s
  | .dig d => Sys2Proof.Machine.execDig d s
  | .chr c => Sys2Proof.Machine.execChr c s
  | .rd n => Sys2Proof.Machine.execRd n s

end Sys2Proof.Machine
end

