-- ==== Sys2Proof/Machine/Buttons.lean ====
section
/-! DEFINITION. The debounced button channels (`42_button_core.md`): the falling edge, the debounce transition, the
input flops, and both channels' part of a tick. -/

namespace Sys2Proof.Machine

/-- `EDGE_X`: before the tick `S2_X = 1` and `S1_X = 0` (R132). -/
def ButtonChannel.falling (c : ButtonChannel) : Bool := c.s2 && !c.s1

/-- `elapsed = (now - TS_X) mod 2^32` (R134). -/
def ButtonChannel.elapsed (now : Word32) (c : ButtonChannel) : Nat := (now - c.ts).toNat

/-- `accept = (elapsed >= DEBOUNCE_MS) or (TS_NEVER_AT_RESET and SEEN_X = 0)` (R134). -/
def ButtonChannel.accepts (never : Bool) (now : Word32) (c : ButtonChannel) : Bool :=
  decide (Config.debounceMs ≤ c.elapsed now) || (never && !c.seen)

/-- The debounce transition on an edge at time `now`: an accepted edge sets the flag, the timestamp and the seen bit
together (R134, `20_memory.md` R47); a rejected one changes nothing (R136). -/
def ButtonChannel.debounce (never : Bool) (now : Word32) (c : ButtonChannel) : ButtonChannel :=
  if c.accepts never now then { c with flag := true, ts := now, seen := true } else c

/-- The input flops: `S0_X <- btn_x_n; S1_X <- S0_X; S2_X <- S1_X` (`10_state.md` R24). -/
def ButtonChannel.sample (pin : Bool) (c : ButtonChannel) : ButtonChannel :=
  { c with s0 := pin, s1 := c.s0, s2 := c.s1 }

/-- The channel's part of a tick: the transition if an edge occurs (R132, R134), and the flops (R24). -/
def ButtonChannel.step (never : Bool) (now : Word32) (pin : Bool) (c : ButtonChannel) : ButtonChannel :=
  (if c.falling then c.debounce never now else c).sample pin

/-- Both channels' part of a tick; each sees its own pin, the same `now` and its own state only (R138). -/
def State.buttonTick (s : State) : State :=
  { s with
    btnA := s.btnA.step s.par.tsNeverAtReset s.ports.nowMs s.ports.btnAN
    btnB := s.btnB.step s.par.tsNeverAtReset s.ports.nowMs s.ports.btnBN }

end Sys2Proof.Machine
end

