-- ==== Sys2Proof/Machine/Serial.lean ====
section
/-! DEFINITION. The serializer engine: its tick (`40_led_chain_driver.md` R86 to R90), the level of the line (R87,
R88), and the bytes and bits of a frame (`20_memory.md` R44, R45). -/

namespace Sys2Proof.Machine

/-- One tick of SER (R86): `IDLE` changes nothing (R87), `SHIFT` counts ticks and bits and enters `GAP` after the last
tick of the last bit (R89), `GAP` counts the idle ticks and returns to `IDLE` (R90). `TBIT` = 10, `FRAME_BITS` = 600,
`GAP_TICKS` = 800 are the bounds of the counters' types. -/
def Serializer.step (q : Serializer) : Serializer :=
  match q.phase with
  | .idle => q
  | .shift =>
    if ht : q.tick.val + 1 < 10 then { q with tick := ⟨q.tick.val + 1, ht⟩ }
    else if hp : q.pos.val + 1 < 600 then { q with tick := 0, pos := ⟨q.pos.val + 1, hp⟩ }
    else { q with phase := .gap, gapCnt := 0 }
  | .gap =>
    if hg : q.gapCnt.val + 1 < 800 then { q with gapCnt := ⟨q.gapCnt.val + 1, hg⟩ }
    else { q with phase := .idle }

/-- SER's part of a tick. -/
def State.serTick (s : State) : State := { s with ser := s.ser.step }

/-- The bit at position `p` of a frame: bit `23 - p % 24` of `PIX[p / 24]` (R88). -/
def frameBit (pix : Vector Pixel 25) (p : Fin 600) : Bool :=
  pix[p.val / 24]'(by omega) |>.getLsbD (23 - p.val % 24)

/-- The bytes of a frame: green, red, blue of every pixel in ascending order (`20_memory.md` R44). -/
def frameBytes (pix : Vector Pixel 25) : List Byte :=
  pix.toList.flatMap fun w => [greenOf w, redOf w, blueOf w]

/-- `fb[p] = FB[p / 8][7 - p % 8]`, the frame's bit string: each byte most significant bit first (R45). -/
def wireBit (bytes : List Byte) (p : Nat) : Bool := (bytes.getD (p / 8) 0).getLsbD (7 - p % 8)

/-- The number of 1 bits of a frame (`41_matrix_renderer.md` R116). -/
def frameOnes (bytes : List Byte) : Nat := ((List.range Config.frameBits).filter (wireBit bytes)).length

/-- Ticks the line is high for a bit (R88). -/
def highTicks (b : Bool) : Nat := if b then Config.t1h else Config.t0h

/-- `dout` with `rst_n = 1`: high at the start of a bit period in `SHIFT` (R88), low in `IDLE` (R87), in `GAP` (R90) and in the halted
state (`60_exceptions.md` R184). -/
def State.dout (s : State) : Bool :=
  match s.ser.phase with
  | .shift => !s.halt && decide (s.ser.tick.val < highTicks (frameBit s.pix s.ser.pos))
  | .idle | .gap => false

end Sys2Proof.Machine
end

