-- ==== Sys2Proof/Machine/Ticks.lean ====
section
/-! DEFINITION. What a step has to do (`tickKind`), what every tick does before and after the accepted command, the
output ports, and how a command word is put on the port. -/

namespace Sys2Proof.Machine

/-- `cmd_ready`: `SER_STATE = IDLE and HALT = 0 and rst_n = 1` (`10_state.md` R10). -/
def State.cmdReady (s : State) : Bool :=
  match s.event with
  | .reset => false
  | .tick _ => decide (s.ser.phase = .idle) && !s.halt

/-- A command is accepted exactly when `cmd_valid = 1` and `cmd_ready = 1` at the tick (R10). -/
def State.accepts (s : State) : Bool := s.ports.cmdValid && s.cmdReady

/-- What the coming step is. -/
inductive TickKind where
  /-- `rst_n = 0` (`70_reset_and_hazards.md` R210). -/
  | reset
  /-- A tick in the halted state (`60_exceptions.md` R184). -/
  | frozen
  /-- A tick that accepts no command. -/
  | quiet
  /-- A tick that accepts an illegal word (R183). -/
  | illegal (why : Illegal)
  /-- A tick that accepts this command. -/
  | run (i : Instr)
  deriving DecidableEq, Repr

/-- Reset wins over everything (`60_exceptions.md` R188), a halted block is frozen (R184), and otherwise the accepted
word is decoded (`30_encoding.md` R63). -/
def State.tickKind (s : State) : TickKind :=
  match s.event with
  | .reset => .reset
  | .tick p =>
    if s.halt then .frozen
    else if s.accepts then
      match decode p.cmd with
      | .ok i => .run i
      | .error e => .illegal e
    else .quiet

/-- Before the command: the response is cleared (`10_state.md` R25) and SER takes its step from the state before the
tick (`40_led_chain_driver.md` R86). Where a command is accepted, SER is idle and this changes the response only. -/
def State.beginTick (s : State) : State := s.clearResponse.serTick

/-- After the command: the button channels step (no command writes what they read, `60_exceptions.md` R188) and the
event is past. -/
def State.finishTick (s : State) : State := s.buttonTick.advance

/-- The output ports (`10_state.md` R10). -/
structure Outputs where
  cmdReady : Bool
  rspValid : Bool
  rspData  : Word32
  dout     : Bool
  halt     : Bool
  deriving DecidableEq, Repr

/-- The levels on the output ports (R10): while `rst_n = 0` those of the reset state with the port not ready
(`70_reset_and_hazards.md` R210), else what the state gives. -/
def State.outputs (s : State) : Outputs :=
  match s.event with
  | .reset => ⟨false, false, 0, false, false⟩
  | .tick _ => ⟨s.cmdReady, s.rsp.valid, s.rsp.data, s.dout, s.halt⟩

/-- The listed events with command word `w` offered at the coming tick: the other levels of a listed tick stay, and
where no tick is next one with quiet levels is put in front. Log 5. -/
def offerFirst (w : CommandWord) (feed : List Event) : List Event :=
  match feed with
  | .tick p :: rest => .tick { p with cmdValid := true, cmd := w } :: rest
  | _ => .tick { Ports.quiet with cmdValid := true, cmd := w } :: feed

/-- Offer command word `w` at the coming tick, with the block ready to accept it (not halted, serializer idle). Log 5. -/
def State.offer (w : CommandWord) (s : State) : State :=
  { s with
    halt := false
    ser := { s.ser with phase := .idle }
    env := { s.env with feed := offerFirst w s.env.feed } }

end Sys2Proof.Machine
end

