-- ==== Sys2Proof/Machine/Step.lean ====
section
/-! DEFINITION. One step of the block: one event of the environment, all agents together (`00_scope.md` R7). -/

namespace Sys2Proof.Machine

/-- One step: a reset, or one tick with everything that happens on it. -/
def step (s : State) : Host.Outcome State Fault Refusal :=
  match s.tickKind with
  | .reset => .next s.applyReset
  | .frozen => .next s.advance
  | .quiet => .next s.beginTick.finishTick
  | .illegal _ => .next (s.beginTick.raise .illegalCommand).finishTick
  | .run i =>
    match exec i s.beginTick with
    | .next t => .next t.finishTick
    | .fault f => .fault f
    | .refused r => .refused r

/-- The word `w` (the table's numbering, bits from `nbits` up 0) offered at the coming tick. The block fetches nothing
(`20_memory.md` R57): its next command is the word on the port. Log 5. -/
def State.withFetchWord (s : State) (nbits w : Nat) : State := s.offer (BitVec.ofNat 16 (w % 2 ^ nbits))

end Sys2Proof.Machine
end

