-- ==== Sys2Proof/Machine/Transaction.lean ====
section
/-! DEFINITION. The transaction level (`00_scope.md` R8): a command, an edge, a passage of time or a reset is one atomic
change of state, and a command that starts a frame emits the frame's bytes and then the gap (`40_led_chain_driver.md`
R93). -/

namespace Sys2Proof.Machine

/-- What the block emits on the line at the transaction level (R93). -/
inductive LineEvent where
  | frame (bytes : List Byte)
  | gap
  deriving DecidableEq, Repr

/-- The two button channels. -/
inductive Channel where
  | a
  | b
  deriving DecidableEq, Repr

/-- The inputs of the transaction level (`30_encoding.md` R66): a reset, a command word with the pools then free, an
edge at a time, and `TICK`, a passage of time that samples the pins. That the pin levels come in by `TICK`, and by it
alone, is the model's choice among those of `42_button_core.md` R141. DESIGN CHOICE, log 14. -/
inductive TxEvent where
  | reset
  | command (w : CommandWord) (tgAvail : BitVec 2)
  | edge (ch : Channel) (now : Word32)
  | tick (btnAN btnBN : Bool)
  deriving DecidableEq, Repr

/-- Whether the command calls `start_frame` in state `s`: `WR`, `DIG` with a legal digit and `CHR` with a digit byte,
after a successful `INIT` (R84, `41_matrix_renderer.md` R111, R114). -/
def startsFrame (i : Instr) (s : State) : Bool :=
  s.drv.initOk && match i with
    | .init _ => false
    | .wr => true
    | .dig d => (digitOf d).isSome
    | .chr c => (asciiDigitOf c).isSome
    | .rd _ => false

/-- The events of a command that takes an idle `s` to `t`: a frame of the buffer in `t` and a gap if it started the
serializer, else none (R93). -/
def lineEvents (s t : State) : List LineEvent :=
  if s.ser.phase = .idle ∧ t.ser.phase = .shift then [.frame (frameBytes t.pix), .gap] else []

/-- A frame or gap in flight is over: the serializer is idle again, its counters at their last values (R89, R90; log
8). -/
def Serializer.settle (q : Serializer) : Serializer :=
  match q.phase with
  | .shift => ⟨.idle, 599, 9, 799⟩
  | .gap => { q with phase := .idle, gapCnt := 799 }
  | .idle => q

/-- What `settle` makes of the serializer; nothing else changes. -/
def State.settle (s : State) : State := { s with ser := s.ser.settle }

/-- The flops of a channel whose pin has stood at one level: all three hold it, so the level read is the pin's inverse
(`42_button_core.md` R141). DESIGN CHOICE, log 14. -/
def ButtonChannel.atLevel (pin : Bool) (c : ButtonChannel) : ButtonChannel := { c with s0 := pin, s1 := pin, s2 := pin }

/-- Both channels' pins are sampled; no edge runs, for an edge is an input of its own here (decision D15). -/
def State.samplePins (btnAN btnBN : Bool) (s : State) : State :=
  { s with btnA := s.btnA.atLevel btnAN, btnB := s.btnB.atLevel btnBN }

/-- The port levels seen by a command at the transaction level: `tg_avail` alone is read (`00_scope.md` R7). -/
def State.withPools (tg : BitVec 2) (s : State) : State :=
  { s with env := { s.env with feed := [.tick { Ports.quiet with tgAvail := tg }] } }

/-- The debounce transition of one channel (`42_button_core.md` R134). -/
def State.edge (ch : Channel) (now : Word32) (s : State) : State :=
  match ch with
  | .a => { s with btnA := s.btnA.debounce s.par.tsNeverAtReset now }
  | .b => { s with btnB := s.btnB.debounce s.par.tsNeverAtReset now }

/-- One atomic change at the transaction level, with what it emits. In the halted state only a reset has an effect
(`60_exceptions.md` R184). The response register follows `10_state.md` R25, read for this level: a command other than
`RD` and a `TICK` clear `RSP_VALID`, an edge leaves the response alone (DESIGN CHOICE, log 15). A frame and its gap are
within their command, so the serializer is idle between the changes of a run. -/
def txStep (e : TxEvent) (s : State) : Host.Outcome (State × List LineEvent) Fault Refusal :=
  match e with
  | .reset => .next ({ State.reset with par := s.par, env := s.env }, [])
  | .edge ch now => .next (if s.halt then s else s.edge ch now, [])
  | .tick a b => .next (if s.halt then s else (s.clearResponse.samplePins a b).settle, [])
  | .command w tg =>
    if s.halt then .next (s, [])
    else match decode w with
      | .error _ => .next (s.clearResponse.raise .illegalCommand, [])
      | .ok i =>
        match exec i (s.clearResponse.withPools tg) with
        | .next t => .next ({ t.settle with env := s.env }, lineEvents s t)
        | .fault f => .fault f
        | .refused r => .refused r

end Sys2Proof.Machine
end

