-- ==== Sys2Proof/Safety.lean ====
section
/-! DEFINITION. The terms claims are stated in: a faulted state, a quiescent point, runs, and the invariant of the
block. -/

namespace Sys2Proof.Machine

/-- A run that reaches such a state has gone wrong: an error flag is set, or the block is halted
(`60_exceptions.md` R184, `92_eei_decisions.md` D13). -/
def State.faulted (s : State) : Bool := s.halt || s.err.range || s.err.seq || s.err.ill

/-- A quiescent point: a tick is next, before it `SER_STATE = IDLE` and `HALT = 0`, and no command is offered at it
(`44_host_loop.md` R170). A state whose coming event is a reset is none: no tick's rule applies there
(`70_reset_and_hazards.md` R210). -/
def State.quiescent (s : State) : Bool :=
  match s.event with
  | .reset => false
  | .tick p => decide (s.ser.phase = .idle) && !s.halt && !p.cmdValid

/-- `k` steps, in the host's terms. -/
abbrev after (k : Nat) (s : State) : Host.Outcome State Fault Refusal := Host.Core.run Sys2Proof.core k s

/-- The next `k` events are ticks: no reset among them. -/
def State.TicksAhead (s : State) (k : Nat) : Prop := ∀ j, j < k → ∃ p, s.env.upcoming j = .tick p

/-- The coming tick accepts a command that starts a frame: the tick `t0` of `40_led_chain_driver.md` R85. -/
def State.FrameAccepted (s : State) : Prop := ∃ i, s.tickKind = .run i ∧ startsFrame i s = true

/-- The invariant of one button channel: the flag and the seen bit agree, and the timestamp is 0 until the first
accepted edge (`43_register_read.md` R154, `42_button_core.md` R140). -/
structure ButtonChannel.Inv (c : ButtonChannel) : Prop where
  flag_eq_seen : c.flag = c.seen
  ts_zero : c.seen = false → c.ts = 0

/-- The invariant of the block. -/
structure State.Inv (s : State) : Prop where
  /-- Every pixel is black or full red (`10_state.md` R12). -/
  pix : ∀ i : Fin 25, s.pix[i] = BLACK ∨ s.pix[i] = RED
  /-- Before a successful `INIT` no frame is sent (`44_host_loop.md` R165), the buffer is black, and `TG_SEL` and `PIN`
  hold their reset values (`10_state.md` R19, R20). -/
  uninit : s.drv.initOk = false →
    s.ser.phase = .idle ∧ s.drv.tgSel = false ∧ s.drv.pin = 0 ∧ ∀ i : Fin 25, s.pix[i] = BLACK
  /-- The halted state is entered only by a failing `INIT` (`60_exceptions.md` R184). -/
  halted : s.halt = true → s.drv.initOk = false ∧ s.rsp.valid = false
  /-- A response is present only while the port is ready again (`43_register_read.md` R150). -/
  response : s.rsp.valid = true → s.ser.phase = .idle
  btnA : s.btnA.Inv
  btnB : s.btnB.Inv

end Sys2Proof.Machine
end

