-- ==== Sys2Proof/Certificates/Slice0/Obligations.lean ====
section
/-! DEFINITION. The statements about the block, rule by rule of the spec. Each names the rule it formalises. The glyph
table (`State.par.glyph`) and `TS_NEVER_AT_RESET` are any values in every statement that does not name one, and the
environment's events are any. -/

open Sys2Proof Sys2Proof.Machine

/-! ## Encoding (`30_encoding.md`) -/

/-- R63: the decoding algorithm on every word, its fields written as quotients and remainders of the word's value. -/
def Obligations.DecodingAlgorithm : Prop :=
  ∀ w : CommandWord,
    (w.toNat / 256 % 16 ≠ 0 → ∃ e, decode w = .error e) ∧
    (w.toNat / 256 % 16 = 0 →
      (w.toNat / 4096 = 1 → decode w = .ok (.init (BitVec.ofNat 8 (w.toNat % 256)))) ∧
      (w.toNat / 4096 = 2 → w.toNat % 256 = 0 → decode w = .ok .wr) ∧
      (w.toNat / 4096 = 2 → w.toNat % 256 ≠ 0 → ∃ e, decode w = .error e) ∧
      (w.toNat / 4096 = 3 → decode w = .ok (.dig (BitVec.ofNat 8 (w.toNat % 256)))) ∧
      (w.toNat / 4096 = 4 → decode w = .ok (.chr (BitVec.ofNat 8 (w.toNat % 256)))) ∧
      (w.toNat / 4096 = 5 → decode w = .ok (.rd (BitVec.ofNat 8 (w.toNat % 256)))) ∧
      (w.toNat / 4096 = 0 ∨ 6 ≤ w.toNat / 4096 → ∃ e, decode w = .error e))

/-- R62, R63: decoding the word of any command gives that command with its operand, and the word lies in the command's
row of the opcode table. -/
def Obligations.DecodeOfEncode : Prop :=
  ∀ i : Instr, decode (encode i) = .ok i ∧ encode i &&& i.tableRow.2 = i.tableRow.1

/-- R62 (the patterns are disjoint): a word that decodes to a command is that command's one word. -/
def Obligations.EncodeOfDecode : Prop :=
  ∀ (w : CommandWord) (i : Instr), decode w = .ok i → encode i = w

/-- R64: there are 4 * 256 + 1 = 1025 legal words. -/
def Obligations.LegalWordsNumber1025 : Prop :=
  ∃ l : List CommandWord, l.Nodup ∧ l.length = 1025 ∧ ∀ w, w ∈ l ↔ ∃ i, decode w = .ok i

/-- R62: a word of each command, written out bit by bit, and the illegal words the spec names. -/
def Obligations.SampleWordsDecode : Prop :=
  decode 0b0001000000000111#16 = .ok (.init 7) ∧ decode 0b0010000000000000#16 = .ok .wr ∧
  decode 0b0011000000001001#16 = .ok (.dig 9) ∧ decode 0b0100000000110111#16 = .ok (.chr 0x37) ∧
  decode 0b0101000000101000#16 = .ok (.rd 0x28) ∧
  decode 0x0000#16 = .error .unassignedOp ∧ decode 0xFFFF#16 = .error .reservedField ∧
  decode 0x2001#16 = .error .wrArgument ∧ decode 0x3105#16 = .error .reservedField

/-- R57 and log 5: the table's word offered at the coming tick is what the next step runs, from every state. That the
word is placed on the port this way is the model's choice (log 5). -/
def Obligations.OfferedTableWordRuns : Prop :=
  ∀ (s : State) (w : Nat) (i : Instr), decodeTableWord 16 w = some i → (s.withFetchWord 16 w).tickKind = .run i

/-! ## Reset (`10_state.md` R27, `70_reset_and_hazards.md` R210) -/

/-- R27: the value of every state element after reset, and the outputs. The parameters and the listed inputs are no
state elements. -/
def Obligations.ResetValues : Prop :=
  (∀ i : Fin 25, State.reset.pix[i] = 0x000000#24) ∧
  State.reset.btnA.ts = 0 ∧ State.reset.btnB.ts = 0 ∧
  State.reset.btnA.seen = false ∧ State.reset.btnB.seen = false ∧
  State.reset.btnA.flag = false ∧ State.reset.btnB.flag = false ∧
  State.reset.err = ⟨false, false, false⟩ ∧
  State.reset.drv.initOk = false ∧ State.reset.drv.tgSel = false ∧ State.reset.halt = false ∧
  State.reset.drv.pin = 0x00 ∧
  State.reset.ser.phase = .idle ∧ State.reset.ser.pos = 0 ∧ State.reset.ser.tick = 0 ∧ State.reset.ser.gapCnt = 0 ∧
  State.reset.btnA.s0 = true ∧ State.reset.btnA.s1 = true ∧ State.reset.btnA.s2 = true ∧
  State.reset.btnB.s0 = true ∧ State.reset.btnB.s1 = true ∧ State.reset.btnB.s2 = true ∧
  State.reset.rsp.valid = false ∧ State.reset.rsp.data = 0 ∧
  ∀ (p : Ports) (e : Env), e.upcoming 0 = .tick p →
    { State.reset with env := e }.outputs =
      { cmdReady := true, rspValid := false, rspData := 0, dout := false, halt := false }

/-- R210: while `rst_n = 0` every output is low and nothing is accepted, and the step replaces every state element by its reset value; only the
part's parameters stay. -/
def Obligations.ResetReplacesTheState : Prop :=
  ∀ s : State, s.event = .reset →
    s.cmdReady = false ∧
    s.outputs = { cmdReady := false, rspValid := false, rspData := 0, dout := false, halt := false } ∧
    step s = .next { State.reset with par := s.par, env := s.env.advance }

/-! ## `INIT` and `WR` (`40_led_chain_driver.md`) -/

/-- R82: the claim table, with the whole next state of `INIT` in each row. -/
def Obligations.InitClaimTable : Prop :=
  ∀ (pin : Byte) (s : State), s.drv.initOk = false →
    (s.ports.tgAvail = 0b00 → exec (.init pin) s = .next { s with halt := true }) ∧
    (s.ports.tgAvail = 0b01 → exec (.init pin) s = .next { s with drv := ⟨true, false, pin⟩ }) ∧
    (s.ports.tgAvail = 0b10 → exec (.init pin) s = .next { s with drv := ⟨true, true, pin⟩ }) ∧
    (s.ports.tgAvail = 0b11 → exec (.init pin) s = .next { s with drv := ⟨true, false, pin⟩ })

/-- R83: `INIT` after a successful `INIT` only sets `ERR_SEQ`, whatever `tg_avail` is. -/
def Obligations.SecondInitOnlySetsErrSeq : Prop :=
  ∀ (pin : Byte) (s : State), s.drv.initOk = true →
    exec (.init pin) s = .next { s with err := { s.err with seq := true } }

/-- R84: after `INIT`, `WR` starts a frame and changes nothing but the serializer; before it, it sets `ERR_SEQ` and
changes nothing else. -/
def Obligations.WrSendsTheBuffer : Prop :=
  ∀ s : State,
    (s.drv.initOk = true →
      exec .wr s = .next { s with ser := { phase := .shift, pos := 0, tick := 0, gapCnt := s.ser.gapCnt } }) ∧
    (s.drv.initOk = false → exec .wr s = .next { s with err := { s.err with seq := true } })

/-- R182: the causes of `SequenceError` and its whole effect. An out-of-range `DIG` before `INIT` sets `ERR_RANGE`
beside it (`41_matrix_renderer.md` R111). `ERR_SEQ` is bit 5 of `STATUS`. -/
def Obligations.SequenceErrors : Prop :=
  ∀ s : State,
    (s.drv.initOk = false →
      exec .wr s = .next { s with err := { s.err with seq := true } } ∧
      (∀ d : Byte, d.toNat ≤ 9 → exec (.dig d) s = .next { s with err := { s.err with seq := true } }) ∧
      (∀ d : Byte, 10 ≤ d.toNat →
        exec (.dig d) s = .next { s with err := { s.err with seq := true, range := true } }) ∧
      (∀ c : Byte, 0x30 ≤ c.toNat → c.toNat ≤ 0x39 →
        exec (.chr c) s = .next { s with err := { s.err with seq := true } })) ∧
    (s.drv.initOk = true →
      ∀ pin, exec (.init pin) s = .next { s with err := { s.err with seq := true } }) ∧
    (statusWord s).getLsbD 5 = s.err.seq

/-! ## `DIG` and `CHR` (`41_matrix_renderer.md`) -/

/-- R111, R112: after `INIT`, `DIG d` with `d` in 0..9 sets every pixel to red or black as the glyph's cell is lit or
not, starts a frame, and changes nothing else. -/
def Obligations.DigComposesAndSends : Prop :=
  ∀ (d : Byte) (s : State) (hd : d.toNat < 10), s.drv.initOk = true →
    ∃ pix : Vector Pixel 25,
      (∀ i : Fin 25, pix[i] = if s.par.glyph[d.toNat].getLsbD (5 * (i.val / 5) + i.val % 5) then 0x00FF00#24
        else 0x000000#24) ∧
      exec (.dig d) s = .next { s with pix := pix, ser := { phase := .shift, pos := 0, tick := 0, gapCnt := s.ser.gapCnt } }

/-- R181: `DIG d` with `d > 9` sets `ERR_RANGE` and nothing else (after `INIT`; before it `ERR_SEQ` too); no other
command changes `ERR_RANGE`, which is bit 4 of `STATUS`. -/
def Obligations.OutOfRangeDigitIsRejected : Prop :=
  (∀ (d : Byte) (s : State), 10 ≤ d.toNat → s.drv.initOk = true →
    exec (.dig d) s = .next { s with err := { s.err with range := true } }) ∧
  (∀ (d : Byte) (s : State), 10 ≤ d.toNat → s.drv.initOk = false →
    exec (.dig d) s = .next { s with err := { s.err with range := true, seq := true } }) ∧
  (∀ (i : Instr) (s t : State), exec i s = .next t → t.err.range ≠ s.err.range → ∃ d : Byte, i = .dig d ∧ 10 ≤ d.toNat) ∧
  ∀ s : State, (statusWord s).getLsbD 4 = s.err.range

/-- R114: `CHR c` with an ASCII digit acts as `DIG (c - 0x30)`: after `INIT` it composes that digit's glyph and starts a
frame, before it it only sets `ERR_SEQ`; with any other byte it answers the same state. -/
def Obligations.ChrRoutesTheByte : Prop :=
  ∀ (c : Byte) (s : State),
    (∀ _ : 0x30 ≤ c.toNat ∧ c.toNat ≤ 0x39,
      exec (.chr c) s = exec (.dig (c - 0x30)) s ∧
      (s.drv.initOk = true → ∃ pix : Vector Pixel 25,
        (∀ i : Fin 25, pix[i] = if (s.par.glyph[c.toNat - 0x30]'(by omega)).getLsbD (5 * (i.val / 5) + i.val % 5)
          then 0x00FF00#24 else 0x000000#24) ∧
        exec (.chr c) s =
          .next { s with pix := pix, ser := { phase := .shift, pos := 0, tick := 0, gapCnt := s.ser.gapCnt } }) ∧
      (s.drv.initOk = false → exec (.chr c) s = .next { s with err := { s.err with seq := true } })) ∧
    (c.toNat < 0x30 ∨ 0x39 < c.toNat → exec (.chr c) s = .next s)

/-- R115: after a successful `DIG` the buffer depends on the digit and the glyph table alone, whatever was there. -/
def Obligations.NoStaleCell : Prop :=
  ∀ (d : Byte) (s s' : State), d.toNat ≤ 9 → s.drv.initOk = true → s'.drv.initOk = true → s.par = s'.par →
    ∃ t t', exec (.dig d) s = .next t ∧ exec (.dig d) s' = .next t' ∧ t.pix = t'.pix

/-- R116: the frame of a digit has 8 one bits for each lit cell of its glyph. -/
def Obligations.FrameOnesCountLitCells : Prop :=
  ∀ (d : Fin 10) (s : State),
    frameOnes (frameBytes (s.compose d).pix) =
      8 * ((List.range 25).filter fun i => s.par.glyph[d].getLsbD i).length

/-- R41: the index mapper is a bijection of rows and columns with indices, `idx(r, c) = 5 * r + c`. -/
def Obligations.IndexMapperIsABijection : Prop :=
  (∀ r c : Fin 5, (idx r c).val = 5 * r.val + c.val ∧ row (idx r c) = r ∧ col (idx r c) = c) ∧
  (∀ i : Fin 25, (row i).val = i.val / 5 ∧ (col i).val = i.val % 5 ∧ idx (row i) (col i) = i)

/-! ## `RD` (`43_register_read.md`) -/

/-- R151: `RD 0x00` responds with `STATUS` and changes the response register only. -/
def Obligations.RdStatus : Prop :=
  ∀ s : State, exec (.rd 0x00) s = .next { s with rsp := ⟨true, BitVec.ofNat 32
    (s.drv.initOk.toNat + 2 * s.drv.tgSel.toNat + 16 * s.err.range.toNat + 32 * s.err.seq.toNat +
      64 * s.err.ill.toNat)⟩ }

/-- R152, R153: `RD 0x01` responds with the levels (pressed is low) and `RD 0x02` with the latched flags, A in bit 0 and
B in bit 1; each changes the response register only. -/
def Obligations.RdLevelAndFlags : Prop :=
  ∀ s : State,
    exec (.rd 0x01) s = .next { s with rsp := ⟨true, BitVec.ofNat 32
      ((!s.btnA.s1).toNat + 2 * (!s.btnB.s1).toNat)⟩ } ∧
    exec (.rd 0x02) s = .next { s with rsp := ⟨true, BitVec.ofNat 32
      (s.btnA.flag.toNat + 2 * s.btnB.flag.toNat)⟩ }

/-- R154 to R157: the timestamps, `PIN` and the pixels, whole; each read changes the response register only. -/
def Obligations.RdTimestampsPinAndPixels : Prop :=
  ∀ s : State,
    exec (.rd 0x03) s = .next { s with rsp := ⟨true, s.btnA.ts⟩ } ∧
    exec (.rd 0x04) s = .next { s with rsp := ⟨true, s.btnB.ts⟩ } ∧
    exec (.rd 0x05) s = .next { s with rsp := ⟨true, BitVec.ofNat 32 s.drv.pin.toNat⟩ } ∧
    ∀ i : Fin 25, exec (.rd (BitVec.ofNat 8 (0x10 + i.val))) s =
      .next { s with rsp := ⟨true, BitVec.ofNat 32 s.pix[i].toNat⟩ }

/-- R158: a reserved number responds 0 and sets `ERR_ILL`; nothing else changes. -/
def Obligations.RdReservedNumber : Prop :=
  ∀ (n : Byte) (s : State), (0x06 ≤ n.toNat ∧ n.toNat ≤ 0x0F) ∨ 0x29 ≤ n.toNat →
    exec (.rd n) s = .next { s with rsp := ⟨true, 0⟩, err := { s.err with ill := true } }

/-- R25: on every tick with `HALT = 0` an accepted `RD` puts the register's value before the tick in the response
register, and every other tick clears `RSP_VALID` and keeps `RSP_DATA`; in the halted state it is frozen; its reset values
are 0 and 0. -/
def Obligations.ResponseRegister : Prop :=
  (∀ (s : State) (p : Ports), s.event = .tick p →
    ∃ t, step s = .next t ∧
      (s.halt = true → t.rsp = s.rsp) ∧
      (s.halt = false → ∀ n, s.tickKind = .run (.rd n) → t.rsp = ⟨true, regRead s n⟩) ∧
      (s.halt = false → (∀ n, s.tickKind ≠ .run (.rd n)) → t.rsp = ⟨false, s.rsp.data⟩)) ∧
  State.reset.rsp = ⟨false, 0⟩

/-! ## One step (`10_state.md` R10, `60_exceptions.md`) -/

/-- R10, R188: a tick that accepts a legal word runs its command's meaning on the state with the response cleared; the
button channels step beside it and the event is past. -/
def Obligations.StepRunsTheAcceptedCommand : Prop :=
  ∀ (s : State) (p : Ports) (i : Instr),
    s.event = .tick p → s.halt = false → s.ser.phase = .idle → p.cmdValid = true → decode p.cmd = .ok i →
    (∀ t, exec i { s with rsp := { s.rsp with valid := false } } = .next t →
      step s = .next { t with
        btnA := s.btnA.step s.par.tsNeverAtReset p.nowMs p.btnAN
        btnB := s.btnB.step s.par.tsNeverAtReset p.nowMs p.btnBN
        env := s.env.advance }) ∧
    (∀ f, exec i { s with rsp := { s.rsp with valid := false } } = .fault f → step s = .fault f) ∧
    (∀ r, exec i { s with rsp := { s.rsp with valid := false } } = .refused r → step s = .refused r)

/-- R183: an accepted illegal word sets `ERR_ILL` and does nothing else (beside what every tick does), a reserved `RD`
also responds 0; `ERR_ILL` is bit 6 of `STATUS`. -/
def Obligations.IllegalCommands : Prop :=
  (∀ (s : State) (p : Ports) (e : Illegal),
    s.event = .tick p → s.halt = false → s.ser.phase = .idle → p.cmdValid = true → decode p.cmd = .error e →
    step s = .next { s with
      err := { s.err with ill := true }
      rsp := { s.rsp with valid := false }
      btnA := s.btnA.step s.par.tsNeverAtReset p.nowMs p.btnAN
      btnB := s.btnB.step s.par.tsNeverAtReset p.nowMs p.btnBN
      env := s.env.advance }) ∧
  (∀ (s : State) (n : Byte), (0x06 ≤ n.toNat ∧ n.toNat ≤ 0x0F) ∨ 0x29 ≤ n.toNat →
    exec (.rd n) s = .next { s with rsp := ⟨true, 0⟩, err := { s.err with ill := true } }) ∧
  ∀ s : State, (statusWord s).getLsbD 6 = s.err.ill

/-- R81, R150, R189: after an accepted word that starts no frame (legal or not) the serializer is still idle, and unless
that word halted the block the port is ready again at the next tick; with no word offered there it is a quiescent point
(`44_host_loop.md` R170). -/
def Obligations.OtherCommandsTakeOneTick : Prop :=
  ∀ (s : State) (p q : Ports), s.event = .tick p → s.accepts = true → ¬ s.FrameAccepted →
    s.env.upcoming 1 = .tick q →
    ∃ t, step s = .next t ∧ t.ser.phase = .idle ∧ (t.halt = false → t.cmdReady = true) ∧
      (t.halt = false → q.cmdValid = false → t.quiescent = true)

/-- R10: a word offered while `cmd_ready = 0` is not consumed and has no effect: the tick is the one with no word. -/
def Obligations.WordOfferedWhileBusyHasNoEffect : Prop :=
  ∀ (s : State) (p : Ports), s.event = .tick p → s.halt = false → s.ser.phase ≠ .idle ∨ p.cmdValid = false →
    step s = .next { s with
      rsp := { s.rsp with valid := false }
      ser := s.ser.step
      btnA := s.btnA.step s.par.tsNeverAtReset p.nowMs p.btnAN
      btnB := s.btnB.step s.par.tsNeverAtReset p.nowMs p.btnBN
      env := s.env.advance }

/-- R184: `INIT` with no free pool sets `HALT` and nothing else; while `HALT = 1` the port is not ready, the line is low,
`halt = 1`, and no tick changes any state element. -/
def Obligations.HaltedBlockIsFrozen : Prop :=
  (∀ (pin : Byte) (s : State), s.drv.initOk = false → s.ports.tgAvail = 0b00 →
    exec (.init pin) s = .next { s with halt := true }) ∧
  (∀ (s : State) (p : Ports), s.halt = true → s.event = .tick p →
    s.outputs.cmdReady = false ∧ s.outputs.dout = false ∧ s.outputs.halt = true ∧
    step s = .next { s with env := s.env.advance })

/-- R184, R186: the only step that sets `HALT` is a tick that accepts `INIT` with `INIT_OK = 0` and no pool free. -/
def Obligations.OnlyAFailingInitHalts : Prop :=
  ∀ s t : State, step s = .next t → s.halt = false → t.halt = true →
    ∃ pin, s.tickKind = .run (.init pin) ∧ s.drv.initOk = false ∧ s.ports.tgAvail = 0b00

/-- R119, R189: no step of the block stops: every step answers a next state. -/
def Obligations.EveryStepAnswersNext : Prop :=
  ∀ s : State, ∃ t, step s = .next t

/-- R190: the error flags are sticky and `HALT` stays: only a reset clears them, so a faulted run stays faulted. -/
def Obligations.ErrorFlagsAreSticky : Prop :=
  ∀ (s t : State) (p : Ports), s.event = .tick p → step s = .next t →
    (s.err.range = true → t.err.range = true) ∧ (s.err.seq = true → t.err.seq = true) ∧
    (s.err.ill = true → t.err.ill = true) ∧ (s.halt = true → t.halt = true) ∧
    (s.faulted = true → t.faulted = true)

/-- R11, R159: a tick changes `PIX` only by an accepted `DIG` or `CHR` with a digit, after `INIT`. -/
def Obligations.OnlyDigitCommandsChangePixels : Prop :=
  ∀ (s t : State) (p : Ports), s.event = .tick p → step s = .next t → t.pix ≠ s.pix →
    s.drv.initOk = true ∧
    ((∃ d : Byte, s.tickKind = .run (.dig d) ∧ d.toNat ≤ 9) ∨
     ∃ c : Byte, s.tickKind = .run (.chr c) ∧ 0x30 ≤ c.toNat ∧ c.toNat ≤ 0x39)

/-- R18, R19, R20: a tick changes `INIT_OK`, `TG_SEL` or `PIN` only by the first successful `INIT`. -/
def Obligations.OnlyTheFirstInitChangesTheDriver : Prop :=
  ∀ (s t : State) (p : Ports), s.event = .tick p → step s = .next t → t.drv ≠ s.drv →
    ∃ pin sel, s.tickKind = .run (.init pin) ∧ s.drv.initOk = false ∧ p.tgAvail ≠ 0b00 ∧ t.drv = ⟨true, sel, pin⟩

/-- R191: a command writes no state of the button channels, no parameter and no input; the channels' tick writes nothing
but the channels. -/
def Obligations.ContextsWriteDisjointState : Prop :=
  (∀ (i : Instr) (s t : State), exec i s = .next t →
    t.btnA = s.btnA ∧ t.btnB = s.btnB ∧ t.par = s.par ∧ t.env = s.env) ∧
  (∀ s : State, s.buttonTick = { s with btnA := s.buttonTick.btnA, btnB := s.buttonTick.btnB })

/-- R55, R188: a command other than `RD` and the button channels' tick commute, so either order of a tick's edges and
command gives the same state. -/
def Obligations.EdgesCommuteWithCommands : Prop :=
  ∀ (i : Instr) (s : State), (∀ n, i ≠ .rd n) →
    ∃ t, exec i s = .next t ∧ exec i s.buttonTick = .next t.buttonTick

/-- R23: the glyph table is read only: no step changes it (nor the other parameter). -/
def Obligations.ParametersNeverChange : Prop :=
  ∀ s t : State, step s = .next t → t.par = s.par

/-! ## The serializer and the line (`40_led_chain_driver.md`, `20_memory.md`) -/

/-- R87: in `IDLE` the line is low, the port is ready unless halted, and a tick that starts no frame leaves the
serializer's state alone. -/
def Obligations.IdleSerializer : Prop :=
  ∀ (s : State) (p : Ports), s.ser.phase = .idle → s.event = .tick p →
    s.dout = false ∧ s.cmdReady = !s.halt ∧
    ∀ t, step s = .next t → ¬ s.FrameAccepted → t.ser = s.ser

/-- R88: the level of the line in `SHIFT`, bit `23 - POS % 24` of `PIX[POS / 24]`, which is also bit `7 - POS % 8` of
byte `POS / 8` of the frame. -/
def Obligations.LineLevelInShift : Prop :=
  ∀ s : State, s.ser.phase = .shift → s.halt = false →
    s.dout = decide (s.ser.tick.val < if (s.pix[s.ser.pos.val / 24]'(by omega)).getLsbD (23 - s.ser.pos.val % 24)
      then 6 else 3) ∧
    (s.pix[s.ser.pos.val / 24]'(by omega)).getLsbD (23 - s.ser.pos.val % 24) = wireBit (frameBytes s.pix) s.ser.pos

/-- R44: the bytes of a frame, for any buffer content. -/
def Obligations.FrameByteOrder : Prop :=
  ∀ pix : Vector Pixel 25, (frameBytes pix).length = 75 ∧
    ∀ i : Fin 25,
      (frameBytes pix)[3 * i.val]? = some (BitVec.ofNat 8 (pix[i].toNat / 65536)) ∧
      (frameBytes pix)[3 * i.val + 1]? = some (BitVec.ofNat 8 (pix[i].toNat / 256 % 256)) ∧
      (frameBytes pix)[3 * i.val + 2]? = some (BitVec.ofNat 8 (pix[i].toNat % 256))

/-- R89, R90: one tick of the serializer in `SHIFT` and in `GAP`; and from the tick `t0` that accepts a frame command,
with ticks ahead: `S(t0 + k)` is in `SHIFT` at bit `k / 10`, tick `k % 10` for `k <= 5999`, `S(t0 + 6000 + g)` in `GAP`
at count `g` for `g <= 799`, and `S(t0 + 6800)` in `IDLE`. -/
def Obligations.FrameTimeline : Prop :=
  (∀ q : Serializer, q.phase = .shift →
    (q.tick.val < 9 → q.step.phase = .shift ∧ q.step.tick.val = q.tick.val + 1 ∧ q.step.pos = q.pos) ∧
    (q.tick.val = 9 → q.pos.val < 599 →
      q.step.phase = .shift ∧ q.step.tick.val = 0 ∧ q.step.pos.val = q.pos.val + 1) ∧
    (q.tick.val = 9 → q.pos.val = 599 → q.step.phase = .gap ∧ q.step.gapCnt.val = 0)) ∧
  (∀ q : Serializer, q.phase = .gap →
    (q.gapCnt.val < 799 → q.step.phase = .gap ∧ q.step.gapCnt.val = q.gapCnt.val + 1) ∧
    (q.gapCnt.val = 799 → q.step.phase = .idle)) ∧
  (∀ s : State, s.ser.phase = .gap → s.dout = false) ∧
  ∀ s : State, s.FrameAccepted → s.TicksAhead 6801 →
    (∀ k, k ≤ 5999 → ∃ u, after (1 + k) s = .next u ∧
      u.ser.phase = .shift ∧ u.ser.pos.val = k / 10 ∧ u.ser.tick.val = k % 10) ∧
    (∀ g, g ≤ 799 → ∃ u, after (1 + (6000 + g)) s = .next u ∧ u.ser.phase = .gap ∧ u.ser.gapCnt.val = g) ∧
    ∃ u, after (1 + 6800) s = .next u ∧ u.ser.phase = .idle

/-- R91: the port is not ready at ticks `t0 + 1` to `t0 + 6800` and is ready at tick `t0 + 6801`. -/
def Obligations.BusyFor6800Ticks : Prop :=
  ∀ s : State, s.FrameAccepted → s.TicksAhead 6802 →
    (∀ k, k < 6800 → ∃ u, after (1 + k) s = .next u ∧ u.cmdReady = false) ∧
    ∃ u, after (1 + 6800) s = .next u ∧ u.cmdReady = true

/-- R92: the level three ticks into bit period `8 * k + m` of a frame is bit `7 - m` of the frame's byte `k`, the bytes
computed from the buffer in `S(t0)`; `TBIT` = 10 and `T0H` = 3 are R5's values (log 7). -/
def Obligations.LineDecodesToTheFrame : Prop :=
  ∀ s : State, s.FrameAccepted → s.TicksAhead 6801 →
    ∃ v, after 1 s = .next v ∧
      ∀ k m, k < 75 → m < 8 → ∃ u, after (1 + (10 * (8 * k + m) + 3)) s = .next u ∧
        u.dout = ((frameBytes v.pix).getD k 0).getLsbD (7 - m)

/-- R94: after the last bit period the line is low for 801 ticks, the gap and one tick of `IDLE`, and no frame starts
before tick `t0 + 6801`. -/
def Obligations.LineIsLowInTheGap : Prop :=
  ∀ s : State, s.FrameAccepted → s.TicksAhead 6801 →
    (∀ g, g ≤ 800 → ∃ u, after (1 + (6000 + g)) s = .next u ∧ u.dout = false) ∧
    ∀ k, k < 6800 → ∃ u, after (1 + k) s = .next u ∧ ¬ u.FrameAccepted

/-- R48, R96: no tick of a frame or its gap changes the buffer, the driver's control or the error flags. -/
def Obligations.FrameLeavesTheBuffer : Prop :=
  ∀ (s t : State) (p : Ports), s.event = .tick p → s.ser.phase ≠ .idle → step s = .next t →
    t.pix = s.pix ∧ t.drv = s.drv ∧ t.err = s.err ∧ t.halt = s.halt

/-- R93: a command that calls `start_frame` (`WR`, `DIG` with a legal digit, `CHR` with a digit byte, after `INIT`) emits
exactly one frame of 75 bytes and then one gap; every other command emits nothing, so one that raises an exception does. -/
def Obligations.OneFrameOrNone : Prop :=
  ∀ (i : Instr) (s : State), s.ser.phase = .idle → ∃ t, exec i s = .next t ∧
    (s.drv.initOk = true → (i = .wr ∨ (∃ d : Byte, i = .dig d ∧ d.toNat ≤ 9) ∨
        ∃ c : Byte, i = .chr c ∧ 0x30 ≤ c.toNat ∧ c.toNat ≤ 0x39) →
      (frameBytes t.pix).length = 75 ∧ lineEvents s t = [.frame (frameBytes t.pix), .gap]) ∧
    (¬ (s.drv.initOk = true ∧ (i = .wr ∨ (∃ d : Byte, i = .dig d ∧ d.toNat ≤ 9) ∨
        ∃ c : Byte, i = .chr c ∧ 0x30 ≤ c.toNat ∧ c.toNat ≤ 0x39)) → lineEvents s t = []) ∧
    (t.err ≠ s.err ∨ t.halt ≠ s.halt → lineEvents s t = [])

/-- R8, for commands: the cycle level refines the transaction level. A word accepted by a ready block has, after its tick
(or, if it starts a frame, after the frame and the gap), the effect of the transaction level's one change on every element
that commands write, and the line then carried the emitted frame. The bit times are those of log 7; that the serializer's
counters end equal rests on log 8, and that the response does on the model's choice of log 15. -/
def Obligations.CycleLevelRefinesTransactionLevel : Prop :=
  ∀ (s : State) (p : Ports), s.ser.phase = .idle → s.halt = false → s.event = .tick p → p.cmdValid = true →
    s.TicksAhead 6801 →
    ∃ t evs, txStep (.command p.cmd p.tgAvail) s = .next (t, evs) ∧
      ((evs = [] ∧ ∃ u, after 1 s = .next u ∧ u.pix = t.pix ∧ u.err = t.err ∧ u.drv = t.drv ∧ u.halt = t.halt ∧
          u.ser = t.ser ∧ u.rsp = t.rsp) ∨
       ∃ bytes, evs = [.frame bytes, .gap] ∧
        (∃ u, after 6801 s = .next u ∧ u.pix = t.pix ∧ u.err = t.err ∧ u.drv = t.drv ∧ u.halt = t.halt ∧
          u.ser = t.ser ∧ u.rsp = t.rsp) ∧
        ∀ b, b < 600 → ∃ v, after (1 + (10 * b + 3)) s = .next v ∧ v.dout = wireBit bytes b)

/-- R8, R66, for the events that are no words: a reset event of the cycle level gives the transaction level's reset state;
a tick with an edge gives the channel what the transaction level's edge at that tick's time gives; three ticks with the
pins held and no word offered give what the transaction level's `TICK` gives (the flops all at the pin level: the model's
choice, log 14; the response cleared: log 15; the idle counters: log 8). Every transaction-level event answers, and leaves
an idle serializer idle. -/
def Obligations.EnvironmentEventsRefineTransactionLevel : Prop :=
  (∀ s : State, s.event = .reset → ∃ t u, txStep .reset s = .next (t, []) ∧ step s = .next u ∧
    u = { t with env := s.env.advance }) ∧
  (∀ (s : State) (p : Ports), s.event = .tick p → s.halt = false → s.btnA.s2 = true → s.btnA.s1 = false →
    ∃ t u, txStep (.edge .a p.nowMs) s = .next (t, []) ∧ step s = .next u ∧
      u.btnA.flag = t.btnA.flag ∧ u.btnA.ts = t.btnA.ts ∧ u.btnA.seen = t.btnA.seen) ∧
  (∀ (s : State) (p : Ports), s.event = .tick p → s.halt = false → s.btnB.s2 = true → s.btnB.s1 = false →
    ∃ t u, txStep (.edge .b p.nowMs) s = .next (t, []) ∧ step s = .next u ∧
      u.btnB.flag = t.btnB.flag ∧ u.btnB.ts = t.btnB.ts ∧ u.btnB.seen = t.btnB.seen) ∧
  (∀ (s : State) (a b : Bool), (∀ j, j < 3 → ∃ p, s.env.upcoming j = .tick p ∧ p.btnAN = a ∧ p.btnBN = b ∧
      p.cmdValid = false) →
    ∃ t u, txStep (.tick a b) s = .next (t, []) ∧ after 3 s = .next u ∧
      u.btnA.s0 = t.btnA.s0 ∧ u.btnA.s1 = t.btnA.s1 ∧ u.btnA.s2 = t.btnA.s2 ∧
      u.btnB.s0 = t.btnB.s0 ∧ u.btnB.s1 = t.btnB.s1 ∧ u.btnB.s2 = t.btnB.s2 ∧
      u.pix = t.pix ∧ u.err = t.err ∧ u.drv = t.drv ∧ u.halt = t.halt ∧ u.rsp = t.rsp ∧
      (s.ser.phase = .idle → u.ser = t.ser)) ∧
  ∀ (e : TxEvent) (s : State), s.ser.phase = .idle → ∃ t evs, txStep e s = .next (t, evs) ∧ t.ser.phase = .idle

/-- R141 at the transaction level: after a `TICK` with these pin levels, whatever edges follow, `RD LEVEL` responds with
the inverse of the pins. That the level is sampled at `TICK` is the model's choice (log 14). -/
def Obligations.TransactionLevelReadsThePins : Prop :=
  ∀ (s : State) (a b : Bool) (edges : List (Channel × Word32)) (tg : BitVec 2), s.halt = false →
    ∃ t u, txStep (.tick a b) s = .next (t, []) ∧
      txStep (.command 0x5001 tg) (edges.foldl (fun x e => x.edge e.1 e.2) t) = .next (u, []) ∧
      u.rsp = ⟨true, BitVec.ofNat 32 ((!a).toNat + 2 * (!b).toNat)⟩

/-! ## The button channels (`42_button_core.md`) -/

/-- R134: on a tick with an edge of channel A (or B) the transition runs with the time of that tick, `elapsed` being the
difference modulo 2^32; an accepted edge sets the three elements, a rejected one changes none. -/
def Obligations.DebounceTransition : Prop :=
  ∀ (s : State) (p : Ports), s.event = .tick p → s.halt = false → ∃ t, step s = .next t ∧
    (s.btnA.s2 = true → s.btnA.s1 = false →
      if 200 ≤ (p.nowMs.toNat + 2 ^ 32 - s.btnA.ts.toNat) % 2 ^ 32 ∨
          (s.par.tsNeverAtReset = true ∧ s.btnA.seen = false)
      then t.btnA.flag = true ∧ t.btnA.ts = p.nowMs ∧ t.btnA.seen = true
      else t.btnA.flag = s.btnA.flag ∧ t.btnA.ts = s.btnA.ts ∧ t.btnA.seen = s.btnA.seen) ∧
    (s.btnB.s2 = true → s.btnB.s1 = false →
      if 200 ≤ (p.nowMs.toNat + 2 ^ 32 - s.btnB.ts.toNat) % 2 ^ 32 ∨
          (s.par.tsNeverAtReset = true ∧ s.btnB.seen = false)
      then t.btnB.flag = true ∧ t.btnB.ts = p.nowMs ∧ t.btnB.seen = true
      else t.btnB.flag = s.btnB.flag ∧ t.btnB.ts = s.btnB.ts ∧ t.btnB.seen = s.btnB.seen)

/-- R132, R133: a tick without an edge of a channel leaves its flag, timestamp and seen bit alone. -/
def Obligations.NoEdgeNoChange : Prop :=
  ∀ (s : State) (p : Ports), s.event = .tick p → ∃ t, step s = .next t ∧
    (s.btnA.s2 = false ∨ s.btnA.s1 = true →
      t.btnA.flag = s.btnA.flag ∧ t.btnA.ts = s.btnA.ts ∧ t.btnA.seen = s.btnA.seen) ∧
    (s.btnB.s2 = false ∨ s.btnB.s1 = true →
      t.btnB.flag = s.btnB.flag ∧ t.btnB.ts = s.btnB.ts ∧ t.btnB.seen = s.btnB.seen)

/-- R24: on every tick with `HALT = 0` the flops shift, from the pin to `S2_X`; in the halted state they are frozen; the
level is `not S1_X`; and after reset all six are 1. -/
def Obligations.InputFlops : Prop :=
  (∀ (s : State) (p : Ports), s.event = .tick p → ∃ t, step s = .next t ∧
    (s.halt = false →
      t.btnA.s0 = p.btnAN ∧ t.btnA.s1 = s.btnA.s0 ∧ t.btnA.s2 = s.btnA.s1 ∧
      t.btnB.s0 = p.btnBN ∧ t.btnB.s1 = s.btnB.s0 ∧ t.btnB.s2 = s.btnB.s1) ∧
    (s.halt = true → t.btnA = s.btnA ∧ t.btnB = s.btnB)) ∧
  (∀ c : ButtonChannel, c.level = !c.s1 ∧ (c.falling = true ↔ c.s2 = true ∧ c.s1 = false)) ∧
  ButtonChannel.atReset.s0 = true ∧ ButtonChannel.atReset.s1 = true ∧ ButtonChannel.atReset.s2 = true

/-- R138: what a step makes of channel A depends on the event, `HALT`, the parameters and channel A alone, and the same
for B: neither the other channel nor a command nor the serializer can affect it. -/
def Obligations.ChannelIndependence : Prop :=
  ∀ s s' t t' : State, step s = .next t → step s' = .next t' →
    s.event = s'.event → s.halt = s'.halt → s.par = s'.par →
    (s.btnA = s'.btnA → t.btnA = t'.btnA) ∧ (s.btnB = s'.btnB → t.btnB = t'.btnB)

/-- R137: after an accepted edge at `t1`, an edge less than 200 ms later is rejected and changes nothing, and one at least
200 ms later is accepted and moves the timestamp to it. -/
def Obligations.TwoEdges : Prop :=
  ∀ (never : Bool) (c : ButtonChannel) (t1 t2 : Word32), c.accepts never t1 = true →
    ((t2 - t1).toNat < 200 → (c.debounce never t1).debounce never t2 = c.debounce never t1) ∧
    (200 ≤ (t2 - t1).toNat → ((c.debounce never t1).debounce never t2).ts = t2 ∧
      ((c.debounce never t1).debounce never t2).flag = true)

/-- R135: the first edge after reset under both readings of the initial timestamp; they agree from 200 ms on. -/
def Obligations.FirstEdgeAfterReset : Prop :=
  ∀ now : Word32,
    (ButtonChannel.atReset.accepts false now = true ↔ 200 ≤ now.toNat) ∧
    ButtonChannel.atReset.accepts true now = true ∧
    (200 ≤ now.toNat → ButtonChannel.atReset.debounce false now = ButtonChannel.atReset.debounce true now)

/-- R15, R54: a flag is set only by an accepted edge of its own channel and is cleared by no tick. -/
def Obligations.FlagsAreMonotone : Prop :=
  ∀ (s t : State) (p : Ports), s.event = .tick p → step s = .next t →
    (s.btnA.flag = true → t.btnA.flag = true) ∧ (s.btnB.flag = true → t.btnB.flag = true) ∧
    (t.btnA.flag ≠ s.btnA.flag →
      s.btnA.falling = true ∧ s.btnA.accepts s.par.tsNeverAtReset p.nowMs = true) ∧
    (t.btnB.flag ≠ s.btnB.flag →
      s.btnB.falling = true ∧ s.btnB.accepts s.par.tsNeverAtReset p.nowMs = true)

/-- R54, R218: a tick that changes a channel's timestamp moves it by at least 200 ms modulo 2^32, but for a first edge
with `TS_NEVER_AT_RESET`. -/
def Obligations.TimestampMovesByTheInterval : Prop :=
  ∀ (s t : State) (p : Ports), s.event = .tick p → step s = .next t →
    (t.btnA.ts = s.btnA.ts ∨ 200 ≤ (t.btnA.ts - s.btnA.ts).toNat ∨
      (s.par.tsNeverAtReset = true ∧ s.btnA.seen = false)) ∧
    (t.btnB.ts = s.btnB.ts ∨ 200 ≤ (t.btnB.ts - s.btnB.ts).toNat ∨
      (s.par.tsNeverAtReset = true ∧ s.btnB.seen = false))

/-- R212: with the pin of A low from the release of reset on, the edge of A occurs on the third tick and on neither
before it, and the level reads pressed from the second tick on (after two ticks). -/
def Obligations.ButtonHeldAcrossReset : Prop :=
  ∀ (s : State) (p0 p1 : Ports), s.btnA = ButtonChannel.atReset → s.halt = false →
    s.env.upcoming 0 = .tick p0 → s.env.upcoming 1 = .tick p1 → p0.btnAN = false → p1.btnAN = false →
    s.btnA.falling = false ∧ s.btnA.level = false ∧
    ∃ u v, step s = .next u ∧ u.btnA.falling = false ∧ u.btnA.level = false ∧
      (u.halt = false → step u = .next v ∧ v.btnA.falling = true ∧ v.btnA.level = true)

/-- R142: the level and the flag are never reconciled: from reset, a run reaches a pressed level with the flag clear, and
a run reaches a released level with the flag set. -/
def Obligations.LevelAndFlagDisagree : Prop :=
  (∃ (e : Env) (k : Nat) (t : State), after k { State.reset with env := e } = .next t ∧
    t.btnA.level = true ∧ t.btnA.flag = false) ∧
  (∃ (e : Env) (k : Nat) (t : State), after k { State.reset with env := e } = .next t ∧
    t.btnA.level = false ∧ t.btnA.flag = true)

/-! ## The invariant -/

/-- R27: the reset state meets the invariant of the block. -/
def Obligations.ResetMeetsTheInvariant : Prop := State.reset.Inv

/-- R12 and the rules named at `State.Inv`: every step keeps the invariant: pixels are black or red; before `INIT`
the serializer is idle, the buffer black, `PIN` and `TG_SEL` at reset; a halted block has no `INIT` and no response; a
response is present only when idle; each flag agrees with its seen bit. -/
def Obligations.StepKeepsTheInvariant : Prop :=
  ∀ s t : State, s.Inv → step s = .next t → t.Inv
end

