-- ==== Sys2Proof/Laws/State.lean ====
section
/-! SUPPORT. One lemma per field and update of the state: what each named operation writes and what it leaves. -/

namespace Sys2Proof.Machine

/-! `advance` -/

@[simp] theorem State.advance_pix (s : State) : s.advance.pix = s.pix := rfl
@[simp] theorem State.advance_btnA (s : State) : s.advance.btnA = s.btnA := rfl
@[simp] theorem State.advance_btnB (s : State) : s.advance.btnB = s.btnB := rfl
@[simp] theorem State.advance_err (s : State) : s.advance.err = s.err := rfl
@[simp] theorem State.advance_drv (s : State) : s.advance.drv = s.drv := rfl
@[simp] theorem State.advance_halt (s : State) : s.advance.halt = s.halt := rfl
@[simp] theorem State.advance_ser (s : State) : s.advance.ser = s.ser := rfl
@[simp] theorem State.advance_rsp (s : State) : s.advance.rsp = s.rsp := rfl
@[simp] theorem State.advance_par (s : State) : s.advance.par = s.par := rfl
@[simp] theorem State.advance_env (s : State) : s.advance.env = s.env.advance := rfl

/-! `applyReset` -/

@[simp] theorem State.applyReset_pix (s : State) : s.applyReset.pix = State.reset.pix := rfl
@[simp] theorem State.applyReset_btnA (s : State) : s.applyReset.btnA = State.reset.btnA := rfl
@[simp] theorem State.applyReset_btnB (s : State) : s.applyReset.btnB = State.reset.btnB := rfl
@[simp] theorem State.applyReset_err (s : State) : s.applyReset.err = State.reset.err := rfl
@[simp] theorem State.applyReset_drv (s : State) : s.applyReset.drv = State.reset.drv := rfl
@[simp] theorem State.applyReset_halt (s : State) : s.applyReset.halt = State.reset.halt := rfl
@[simp] theorem State.applyReset_ser (s : State) : s.applyReset.ser = State.reset.ser := rfl
@[simp] theorem State.applyReset_rsp (s : State) : s.applyReset.rsp = State.reset.rsp := rfl
@[simp] theorem State.applyReset_par (s : State) : s.applyReset.par = s.par := rfl
@[simp] theorem State.applyReset_env (s : State) : s.applyReset.env = s.env.advance := rfl

/-! `compose` -/

@[simp] theorem State.compose_pix (s : State) (d : Fin 10) : (s.compose d).pix = Vector.ofFn (cellColour s.par.glyph d) := by simp only [State.compose]
@[simp] theorem State.compose_btnA (s : State) (d : Fin 10) : (s.compose d).btnA = s.btnA := by simp only [State.compose]
@[simp] theorem State.compose_btnB (s : State) (d : Fin 10) : (s.compose d).btnB = s.btnB := by simp only [State.compose]
@[simp] theorem State.compose_err (s : State) (d : Fin 10) : (s.compose d).err = s.err := by simp only [State.compose]
@[simp] theorem State.compose_drv (s : State) (d : Fin 10) : (s.compose d).drv = s.drv := by simp only [State.compose]
@[simp] theorem State.compose_halt (s : State) (d : Fin 10) : (s.compose d).halt = s.halt := by simp only [State.compose]
@[simp] theorem State.compose_ser (s : State) (d : Fin 10) : (s.compose d).ser = s.ser := by simp only [State.compose]
@[simp] theorem State.compose_rsp (s : State) (d : Fin 10) : (s.compose d).rsp = s.rsp := by simp only [State.compose]
@[simp] theorem State.compose_par (s : State) (d : Fin 10) : (s.compose d).par = s.par := by simp only [State.compose]
@[simp] theorem State.compose_env (s : State) (d : Fin 10) : (s.compose d).env = s.env := by simp only [State.compose]
@[simp] theorem State.compose_event (s : State) (d : Fin 10) : (s.compose d).event = s.event := by simp only [State.compose, State.event]
@[simp] theorem State.compose_ports (s : State) (d : Fin 10) : (s.compose d).ports = s.ports := by simp only [State.compose, State.event, State.ports]

/-! `startFrame` -/

@[simp] theorem State.startFrame_pix (s : State) : s.startFrame.pix = s.pix := rfl
@[simp] theorem State.startFrame_btnA (s : State) : s.startFrame.btnA = s.btnA := rfl
@[simp] theorem State.startFrame_btnB (s : State) : s.startFrame.btnB = s.btnB := rfl
@[simp] theorem State.startFrame_err (s : State) : s.startFrame.err = s.err := rfl
@[simp] theorem State.startFrame_drv (s : State) : s.startFrame.drv = s.drv := rfl
@[simp] theorem State.startFrame_halt (s : State) : s.startFrame.halt = s.halt := rfl
@[simp] theorem State.startFrame_ser (s : State) : s.startFrame.ser = ⟨.shift, 0, 0, s.ser.gapCnt⟩ := rfl
@[simp] theorem State.startFrame_rsp (s : State) : s.startFrame.rsp = s.rsp := rfl
@[simp] theorem State.startFrame_par (s : State) : s.startFrame.par = s.par := rfl
@[simp] theorem State.startFrame_env (s : State) : s.startFrame.env = s.env := rfl
@[simp] theorem State.startFrame_event (s : State) : s.startFrame.event = s.event := rfl
@[simp] theorem State.startFrame_ports (s : State) : s.startFrame.ports = s.ports := rfl

/-! `respond` -/

@[simp] theorem State.respond_pix (s : State) (v : Word32) : (s.respond v).pix = s.pix := rfl
@[simp] theorem State.respond_btnA (s : State) (v : Word32) : (s.respond v).btnA = s.btnA := rfl
@[simp] theorem State.respond_btnB (s : State) (v : Word32) : (s.respond v).btnB = s.btnB := rfl
@[simp] theorem State.respond_err (s : State) (v : Word32) : (s.respond v).err = s.err := rfl
@[simp] theorem State.respond_drv (s : State) (v : Word32) : (s.respond v).drv = s.drv := rfl
@[simp] theorem State.respond_halt (s : State) (v : Word32) : (s.respond v).halt = s.halt := rfl
@[simp] theorem State.respond_ser (s : State) (v : Word32) : (s.respond v).ser = s.ser := rfl
@[simp] theorem State.respond_rsp (s : State) (v : Word32) : (s.respond v).rsp = ⟨true, v⟩ := rfl
@[simp] theorem State.respond_par (s : State) (v : Word32) : (s.respond v).par = s.par := rfl
@[simp] theorem State.respond_env (s : State) (v : Word32) : (s.respond v).env = s.env := rfl
@[simp] theorem State.respond_event (s : State) (v : Word32) : (s.respond v).event = s.event := rfl
@[simp] theorem State.respond_ports (s : State) (v : Word32) : (s.respond v).ports = s.ports := rfl

/-! `clearResponse` -/

@[simp] theorem State.clearResponse_pix (s : State) : s.clearResponse.pix = s.pix := rfl
@[simp] theorem State.clearResponse_btnA (s : State) : s.clearResponse.btnA = s.btnA := rfl
@[simp] theorem State.clearResponse_btnB (s : State) : s.clearResponse.btnB = s.btnB := rfl
@[simp] theorem State.clearResponse_err (s : State) : s.clearResponse.err = s.err := rfl
@[simp] theorem State.clearResponse_drv (s : State) : s.clearResponse.drv = s.drv := rfl
@[simp] theorem State.clearResponse_halt (s : State) : s.clearResponse.halt = s.halt := rfl
@[simp] theorem State.clearResponse_ser (s : State) : s.clearResponse.ser = s.ser := rfl
@[simp] theorem State.clearResponse_rsp (s : State) : s.clearResponse.rsp = ⟨false, s.rsp.data⟩ := rfl
@[simp] theorem State.clearResponse_par (s : State) : s.clearResponse.par = s.par := rfl
@[simp] theorem State.clearResponse_env (s : State) : s.clearResponse.env = s.env := rfl
@[simp] theorem State.clearResponse_event (s : State) : s.clearResponse.event = s.event := rfl
@[simp] theorem State.clearResponse_ports (s : State) : s.clearResponse.ports = s.ports := rfl

/-! `claim` -/

@[simp] theorem State.claim_pix (s : State) (sel : Bool) (pin : Byte) : (s.claim sel pin).pix = s.pix := rfl
@[simp] theorem State.claim_btnA (s : State) (sel : Bool) (pin : Byte) : (s.claim sel pin).btnA = s.btnA := rfl
@[simp] theorem State.claim_btnB (s : State) (sel : Bool) (pin : Byte) : (s.claim sel pin).btnB = s.btnB := rfl
@[simp] theorem State.claim_err (s : State) (sel : Bool) (pin : Byte) : (s.claim sel pin).err = s.err := rfl
@[simp] theorem State.claim_drv (s : State) (sel : Bool) (pin : Byte) : (s.claim sel pin).drv = ⟨true, sel, pin⟩ := rfl
@[simp] theorem State.claim_halt (s : State) (sel : Bool) (pin : Byte) : (s.claim sel pin).halt = s.halt := rfl
@[simp] theorem State.claim_ser (s : State) (sel : Bool) (pin : Byte) : (s.claim sel pin).ser = s.ser := rfl
@[simp] theorem State.claim_rsp (s : State) (sel : Bool) (pin : Byte) : (s.claim sel pin).rsp = s.rsp := rfl
@[simp] theorem State.claim_par (s : State) (sel : Bool) (pin : Byte) : (s.claim sel pin).par = s.par := rfl
@[simp] theorem State.claim_env (s : State) (sel : Bool) (pin : Byte) : (s.claim sel pin).env = s.env := rfl
@[simp] theorem State.claim_event (s : State) (sel : Bool) (pin : Byte) : (s.claim sel pin).event = s.event := rfl
@[simp] theorem State.claim_ports (s : State) (sel : Bool) (pin : Byte) : (s.claim sel pin).ports = s.ports := rfl

/-! `serTick` -/

@[simp] theorem State.serTick_pix (s : State) : s.serTick.pix = s.pix := rfl
@[simp] theorem State.serTick_btnA (s : State) : s.serTick.btnA = s.btnA := rfl
@[simp] theorem State.serTick_btnB (s : State) : s.serTick.btnB = s.btnB := rfl
@[simp] theorem State.serTick_err (s : State) : s.serTick.err = s.err := rfl
@[simp] theorem State.serTick_drv (s : State) : s.serTick.drv = s.drv := rfl
@[simp] theorem State.serTick_halt (s : State) : s.serTick.halt = s.halt := rfl
@[simp] theorem State.serTick_ser (s : State) : s.serTick.ser = s.ser.step := rfl
@[simp] theorem State.serTick_rsp (s : State) : s.serTick.rsp = s.rsp := rfl
@[simp] theorem State.serTick_par (s : State) : s.serTick.par = s.par := rfl
@[simp] theorem State.serTick_env (s : State) : s.serTick.env = s.env := rfl
@[simp] theorem State.serTick_event (s : State) : s.serTick.event = s.event := rfl
@[simp] theorem State.serTick_ports (s : State) : s.serTick.ports = s.ports := rfl

/-! `buttonTick` -/

@[simp] theorem State.buttonTick_pix (s : State) : s.buttonTick.pix = s.pix := rfl
@[simp] theorem State.buttonTick_btnA (s : State) : s.buttonTick.btnA = s.btnA.step s.par.tsNeverAtReset s.ports.nowMs s.ports.btnAN := rfl
@[simp] theorem State.buttonTick_btnB (s : State) : s.buttonTick.btnB = s.btnB.step s.par.tsNeverAtReset s.ports.nowMs s.ports.btnBN := rfl
@[simp] theorem State.buttonTick_err (s : State) : s.buttonTick.err = s.err := rfl
@[simp] theorem State.buttonTick_drv (s : State) : s.buttonTick.drv = s.drv := rfl
@[simp] theorem State.buttonTick_halt (s : State) : s.buttonTick.halt = s.halt := rfl
@[simp] theorem State.buttonTick_ser (s : State) : s.buttonTick.ser = s.ser := rfl
@[simp] theorem State.buttonTick_rsp (s : State) : s.buttonTick.rsp = s.rsp := rfl
@[simp] theorem State.buttonTick_par (s : State) : s.buttonTick.par = s.par := rfl
@[simp] theorem State.buttonTick_env (s : State) : s.buttonTick.env = s.env := rfl
@[simp] theorem State.buttonTick_event (s : State) : s.buttonTick.event = s.event := rfl
@[simp] theorem State.buttonTick_ports (s : State) : s.buttonTick.ports = s.ports := rfl

/-! `beginTick` -/

@[simp] theorem State.beginTick_pix (s : State) : s.beginTick.pix = s.pix := rfl
@[simp] theorem State.beginTick_btnA (s : State) : s.beginTick.btnA = s.btnA := rfl
@[simp] theorem State.beginTick_btnB (s : State) : s.beginTick.btnB = s.btnB := rfl
@[simp] theorem State.beginTick_err (s : State) : s.beginTick.err = s.err := rfl
@[simp] theorem State.beginTick_drv (s : State) : s.beginTick.drv = s.drv := rfl
@[simp] theorem State.beginTick_halt (s : State) : s.beginTick.halt = s.halt := rfl
@[simp] theorem State.beginTick_ser (s : State) : s.beginTick.ser = s.ser.step := rfl
@[simp] theorem State.beginTick_rsp (s : State) : s.beginTick.rsp = ⟨false, s.rsp.data⟩ := rfl
@[simp] theorem State.beginTick_par (s : State) : s.beginTick.par = s.par := rfl
@[simp] theorem State.beginTick_env (s : State) : s.beginTick.env = s.env := rfl
@[simp] theorem State.beginTick_event (s : State) : s.beginTick.event = s.event := rfl
@[simp] theorem State.beginTick_ports (s : State) : s.beginTick.ports = s.ports := rfl

/-! `finishTick` -/

@[simp] theorem State.finishTick_pix (s : State) : s.finishTick.pix = s.pix := rfl
@[simp] theorem State.finishTick_btnA (s : State) : s.finishTick.btnA = s.btnA.step s.par.tsNeverAtReset s.ports.nowMs s.ports.btnAN := rfl
@[simp] theorem State.finishTick_btnB (s : State) : s.finishTick.btnB = s.btnB.step s.par.tsNeverAtReset s.ports.nowMs s.ports.btnBN := rfl
@[simp] theorem State.finishTick_err (s : State) : s.finishTick.err = s.err := rfl
@[simp] theorem State.finishTick_drv (s : State) : s.finishTick.drv = s.drv := rfl
@[simp] theorem State.finishTick_halt (s : State) : s.finishTick.halt = s.halt := rfl
@[simp] theorem State.finishTick_ser (s : State) : s.finishTick.ser = s.ser := rfl
@[simp] theorem State.finishTick_rsp (s : State) : s.finishTick.rsp = s.rsp := rfl
@[simp] theorem State.finishTick_par (s : State) : s.finishTick.par = s.par := rfl
@[simp] theorem State.finishTick_env (s : State) : s.finishTick.env = s.env.advance := rfl

/-! `raise`: one flag is set, or `HALT`; everything else is left (`60_exceptions.md` R186). -/

@[simp] theorem State.raise_pix (e : Exn) (s : State) : (s.raise e).pix = s.pix := by cases e <;> rfl
@[simp] theorem State.raise_btnA (e : Exn) (s : State) : (s.raise e).btnA = s.btnA := by cases e <;> rfl
@[simp] theorem State.raise_btnB (e : Exn) (s : State) : (s.raise e).btnB = s.btnB := by cases e <;> rfl
@[simp] theorem State.raise_drv (e : Exn) (s : State) : (s.raise e).drv = s.drv := by cases e <;> rfl
@[simp] theorem State.raise_ser (e : Exn) (s : State) : (s.raise e).ser = s.ser := by cases e <;> rfl
@[simp] theorem State.raise_rsp (e : Exn) (s : State) : (s.raise e).rsp = s.rsp := by cases e <;> rfl
@[simp] theorem State.raise_par (e : Exn) (s : State) : (s.raise e).par = s.par := by cases e <;> rfl
@[simp] theorem State.raise_env (e : Exn) (s : State) : (s.raise e).env = s.env := by cases e <;> rfl
@[simp] theorem State.raise_event (e : Exn) (s : State) : (s.raise e).event = s.event := by cases e <;> rfl
@[simp] theorem State.raise_ports (e : Exn) (s : State) : (s.raise e).ports = s.ports := by cases e <;> rfl
@[simp] theorem State.raise_rangeError_err (s : State) : (s.raise .rangeError).err = { s.err with range := true } := rfl
@[simp] theorem State.raise_rangeError_halt (s : State) : (s.raise .rangeError).halt = s.halt := rfl
@[simp] theorem State.raise_sequenceError_err (s : State) : (s.raise .sequenceError).err = { s.err with seq := true } := rfl
@[simp] theorem State.raise_sequenceError_halt (s : State) : (s.raise .sequenceError).halt = s.halt := rfl
@[simp] theorem State.raise_illegalCommand_err (s : State) : (s.raise .illegalCommand).err = { s.err with ill := true } := rfl
@[simp] theorem State.raise_illegalCommand_halt (s : State) : (s.raise .illegalCommand).halt = s.halt := rfl
@[simp] theorem State.raise_fatal_err (s : State) : (s.raise .fatalNoTimingGenerator).err = s.err := rfl
@[simp] theorem State.raise_fatal_halt (s : State) : (s.raise .fatalNoTimingGenerator).halt = true := rfl

/-! `sample` and `debounce` on a channel -/

@[simp] theorem ButtonChannel.sample_ts (c : ButtonChannel) (b : Bool) : (c.sample b).ts = c.ts := rfl
@[simp] theorem ButtonChannel.sample_seen (c : ButtonChannel) (b : Bool) : (c.sample b).seen = c.seen := rfl
@[simp] theorem ButtonChannel.sample_flag (c : ButtonChannel) (b : Bool) : (c.sample b).flag = c.flag := rfl
@[simp] theorem ButtonChannel.sample_s0 (c : ButtonChannel) (b : Bool) : (c.sample b).s0 = b := rfl
@[simp] theorem ButtonChannel.sample_s1 (c : ButtonChannel) (b : Bool) : (c.sample b).s1 = c.s0 := rfl
@[simp] theorem ButtonChannel.sample_s2 (c : ButtonChannel) (b : Bool) : (c.sample b).s2 = c.s1 := rfl

/-! `withPools` (transaction level) -/

@[simp] theorem State.withPools_pix (s : State) (tg : BitVec 2) : (s.withPools tg).pix = s.pix := rfl
@[simp] theorem State.withPools_btnA (s : State) (tg : BitVec 2) : (s.withPools tg).btnA = s.btnA := rfl
@[simp] theorem State.withPools_btnB (s : State) (tg : BitVec 2) : (s.withPools tg).btnB = s.btnB := rfl
@[simp] theorem State.withPools_err (s : State) (tg : BitVec 2) : (s.withPools tg).err = s.err := rfl
@[simp] theorem State.withPools_drv (s : State) (tg : BitVec 2) : (s.withPools tg).drv = s.drv := rfl
@[simp] theorem State.withPools_halt (s : State) (tg : BitVec 2) : (s.withPools tg).halt = s.halt := rfl
@[simp] theorem State.withPools_ser (s : State) (tg : BitVec 2) : (s.withPools tg).ser = s.ser := rfl
@[simp] theorem State.withPools_rsp (s : State) (tg : BitVec 2) : (s.withPools tg).rsp = s.rsp := rfl
@[simp] theorem State.withPools_par (s : State) (tg : BitVec 2) : (s.withPools tg).par = s.par := rfl
@[simp] theorem State.withPools_tgAvail (s : State) (tg : BitVec 2) : (s.withPools tg).ports.tgAvail = tg := rfl

/-! `settle` and `samplePins` (transaction level) -/

@[simp] theorem State.settle_pix (s : State) : s.settle.pix = s.pix := rfl
@[simp] theorem State.settle_btnA (s : State) : s.settle.btnA = s.btnA := rfl
@[simp] theorem State.settle_btnB (s : State) : s.settle.btnB = s.btnB := rfl
@[simp] theorem State.settle_err (s : State) : s.settle.err = s.err := rfl
@[simp] theorem State.settle_drv (s : State) : s.settle.drv = s.drv := rfl
@[simp] theorem State.settle_halt (s : State) : s.settle.halt = s.halt := rfl
@[simp] theorem State.settle_rsp (s : State) : s.settle.rsp = s.rsp := rfl
@[simp] theorem State.settle_par (s : State) : s.settle.par = s.par := rfl
@[simp] theorem State.settle_env (s : State) : s.settle.env = s.env := rfl
@[simp] theorem State.settle_ser (s : State) : s.settle.ser = s.ser.settle := rfl
@[simp] theorem Serializer.settle_phase (q : Serializer) : q.settle.phase = .idle := by
  obtain ⟨ph, _, _, _⟩ := q
  cases ph <;> rfl
theorem Serializer.settle_of_idle {q : Serializer} (h : q.phase = .idle) : q.settle = q := by
  simp [Serializer.settle, h]
@[simp] theorem State.samplePins_pix (s : State) (a b : Bool) : (s.samplePins a b).pix = s.pix := rfl
@[simp] theorem State.samplePins_err (s : State) (a b : Bool) : (s.samplePins a b).err = s.err := rfl
@[simp] theorem State.samplePins_drv (s : State) (a b : Bool) : (s.samplePins a b).drv = s.drv := rfl
@[simp] theorem State.samplePins_halt (s : State) (a b : Bool) : (s.samplePins a b).halt = s.halt := rfl
@[simp] theorem State.samplePins_ser (s : State) (a b : Bool) : (s.samplePins a b).ser = s.ser := rfl
@[simp] theorem State.samplePins_rsp (s : State) (a b : Bool) : (s.samplePins a b).rsp = s.rsp := rfl
@[simp] theorem State.samplePins_par (s : State) (a b : Bool) : (s.samplePins a b).par = s.par := rfl
@[simp] theorem State.samplePins_env (s : State) (a b : Bool) : (s.samplePins a b).env = s.env := rfl
@[simp] theorem State.samplePins_btnA (s : State) (a b : Bool) : (s.samplePins a b).btnA = s.btnA.atLevel a := rfl
@[simp] theorem State.samplePins_btnB (s : State) (a b : Bool) : (s.samplePins a b).btnB = s.btnB.atLevel b := rfl
@[simp] theorem ButtonChannel.atLevel_s0 (c : ButtonChannel) (b : Bool) : (c.atLevel b).s0 = b := rfl
@[simp] theorem ButtonChannel.atLevel_s1 (c : ButtonChannel) (b : Bool) : (c.atLevel b).s1 = b := rfl
@[simp] theorem ButtonChannel.atLevel_s2 (c : ButtonChannel) (b : Bool) : (c.atLevel b).s2 = b := rfl
@[simp] theorem ButtonChannel.atLevel_ts (c : ButtonChannel) (b : Bool) : (c.atLevel b).ts = c.ts := rfl
@[simp] theorem ButtonChannel.atLevel_seen (c : ButtonChannel) (b : Bool) : (c.atLevel b).seen = c.seen := rfl
@[simp] theorem ButtonChannel.atLevel_flag (c : ButtonChannel) (b : Bool) : (c.atLevel b).flag = c.flag := rfl
@[simp] theorem ButtonChannel.atLevel_level (c : ButtonChannel) (b : Bool) : (c.atLevel b).level = !b := rfl

end Sys2Proof.Machine
end

