-- ==== Sys2Proof/Laws/Ops.lean ====
section
/-! SUPPORT. One lemma for each shared operation: everything it can do. -/

namespace Sys2Proof.Machine

/-! Events -/

theorem Env.upcoming_advance (e : Env) (k : Nat) : e.advance.upcoming k = e.upcoming (k + 1) := by
  cases hf : e.feed with
  | nil => simp [Env.advance, Env.upcoming, hf, Nat.add_assoc, Nat.add_comm 1 k]
  | cons a l => simp [Env.advance, Env.upcoming, hf]

theorem State.ports_of_tick {s : State} {p : Ports} (h : s.event = .tick p) : s.ports = p := by
  simp [State.ports, h]

/-! The debounce transition and a channel's tick (`42_button_core.md` R134) -/

/-- The debounce test (R134), with `DEBOUNCE_MS` = 200. -/
theorem ButtonChannel.accepts_iff (never : Bool) (now : Word32) (c : ButtonChannel) :
    c.accepts never now = true ↔ 200 ≤ (now - c.ts).toNat ∨ (never = true ∧ c.seen = false) := by
  rw [ButtonChannel.accepts, Bool.or_eq_true, decide_eq_true_eq, Bool.and_eq_true, Bool.not_eq_true']
  rfl

/-! The transition leaves the flops alone, so a channel's tick shifts them whatever the edge (`10_state.md` R24). -/

@[simp] theorem ButtonChannel.debounce_s0 (never : Bool) (now : Word32) (c : ButtonChannel) :
    (c.debounce never now).s0 = c.s0 := by unfold debounce; split <;> rfl
@[simp] theorem ButtonChannel.debounce_s1 (never : Bool) (now : Word32) (c : ButtonChannel) :
    (c.debounce never now).s1 = c.s1 := by unfold debounce; split <;> rfl
@[simp] theorem ButtonChannel.debounce_s2 (never : Bool) (now : Word32) (c : ButtonChannel) :
    (c.debounce never now).s2 = c.s2 := by unfold debounce; split <;> rfl
@[simp] theorem ButtonChannel.step_s0 (never : Bool) (now : Word32) (pin : Bool) (c : ButtonChannel) :
    (c.step never now pin).s0 = pin := rfl
@[simp] theorem ButtonChannel.step_s1 (never : Bool) (now : Word32) (pin : Bool) (c : ButtonChannel) :
    (c.step never now pin).s1 = c.s0 := by unfold step; split <;> simp
@[simp] theorem ButtonChannel.step_s2 (never : Bool) (now : Word32) (pin : Bool) (c : ButtonChannel) :
    (c.step never now pin).s2 = c.s1 := by unfold step; split <;> simp

/-- An accepted edge writes all three elements together, a rejected one nothing. -/
theorem ButtonChannel.debounce_cases (never : Bool) (now : Word32) (c : ButtonChannel) :
    (c.accepts never now = true ∧ c.debounce never now = { c with flag := true, ts := now, seen := true }) ∨
    (c.accepts never now = false ∧ c.debounce never now = c) := by
  cases h : c.accepts never now <;> simp [ButtonChannel.debounce, h]

theorem ButtonChannel.step_cases (never : Bool) (now : Word32) (pin : Bool) (c : ButtonChannel) :
    (c.falling = true ∧ c.accepts never now = true ∧
      c.step never now pin = ⟨pin, c.s0, c.s1, now, true, true⟩) ∨
    ((c.falling = false ∨ c.accepts never now = false) ∧
      c.step never now pin = ⟨pin, c.s0, c.s1, c.ts, c.seen, c.flag⟩) := by
  cases hf : c.falling <;> cases ha : c.accepts never now <;>
    simp [ButtonChannel.step, ButtonChannel.debounce, ButtonChannel.sample, hf, ha]

/-! The serializer's tick (`40_led_chain_driver.md` R87, R89, R90) -/

theorem Serializer.step_idle {q : Serializer} (h : q.phase = .idle) : q.step = q := by
  simp [Serializer.step, h]

theorem Serializer.step_shift_tick {q : Serializer} (h : q.phase = .shift) (ht : q.tick.val + 1 < 10) :
    q.step = { q with tick := ⟨q.tick.val + 1, ht⟩ } := by
  simp [Serializer.step, h, ht]

theorem Serializer.step_shift_bit {q : Serializer} (h : q.phase = .shift) (ht : q.tick.val = 9)
    (hp : q.pos.val + 1 < 600) :
    q.step = { q with tick := 0, pos := ⟨q.pos.val + 1, hp⟩ } := by
  simp [Serializer.step, h, ht, hp]

theorem Serializer.step_shift_end {q : Serializer} (h : q.phase = .shift) (ht : q.tick.val = 9)
    (hp : q.pos.val = 599) : q.step = { q with phase := .gap, gapCnt := 0 } := by
  simp [Serializer.step, h, ht, hp]

theorem Serializer.step_gap_count {q : Serializer} (h : q.phase = .gap) (hg : q.gapCnt.val + 1 < 800) :
    q.step = { q with gapCnt := ⟨q.gapCnt.val + 1, hg⟩ } := by
  simp [Serializer.step, h, hg]

theorem Serializer.step_gap_end {q : Serializer} (h : q.phase = .gap) (hg : q.gapCnt.val = 799) :
    q.step = { q with phase := .idle } := by
  simp [Serializer.step, h, hg]

/-- SER leaves `IDLE` by no step of its own. -/
theorem Serializer.step_eq_shift {q : Serializer} (h : q.step.phase = .shift) : q.phase = .shift := by
  cases hq : q.phase with
  | idle => simp [Serializer.step_idle hq, hq] at h
  | shift => rfl
  | gap =>
    simp only [Serializer.step, hq] at h
    split at h <;> simp_all

/-- A serializer with no command to start it stays idle. -/
theorem State.beginTick_of_idle {s : State} (h : s.ser.phase = .idle) : s.beginTick = s.clearResponse := by
  have hq : s.clearResponse.ser.step = s.clearResponse.ser := Serializer.step_idle h
  simp only [State.beginTick, State.serTick, hq]

/-! The compose step (`41_matrix_renderer.md` R112) -/

theorem row_mul_add_col (i : Fin 25) : idx (row i) (col i) = i := by
  apply Fin.ext; simp only [idx, row, col]; omega

theorem cellColour_eq (g : Vector GlyphWord 10) (d : Fin 10) (i : Fin 25) :
    cellColour g d i = if g[d].getLsbD i then RED else BLACK := by
  simp only [cellColour, glyphLit, row_mul_add_col]

@[simp] theorem State.compose_getElem (s : State) (d : Fin 10) (i : Nat) (hi : i < 25) :
    (s.compose d).pix[i] = cellColour s.par.glyph d ⟨i, hi⟩ := by
  simp [State.compose]

theorem cellColour_cases (g : Vector GlyphWord 10) (d : Fin 10) (i : Fin 25) :
    cellColour g d i = BLACK ∨ cellColour g d i = RED := by
  simp only [cellColour]; split <;> simp

/-- `display` composes and sends after `INIT`, and is a sequence error before it. -/
theorem State.display_cases (d : Fin 10) (s : State) :
    (s.drv.initOk = true ∧ s.display d = (s.compose d).startFrame) ∨
    (s.drv.initOk = false ∧ s.display d = s.raise .sequenceError) := by
  cases h : s.drv.initOk <;> simp [State.display, h]

/-! The button channels' tick commutes with every write of a command (`60_exceptions.md` R188) -/

theorem State.buttonTick_raise (e : Exn) (s : State) : s.buttonTick.raise e = (s.raise e).buttonTick := by
  cases e <;> rfl

theorem State.buttonTick_claim (sel : Bool) (pin : Byte) (s : State) :
    s.buttonTick.claim sel pin = (s.claim sel pin).buttonTick := rfl

theorem State.buttonTick_startFrame (s : State) : s.buttonTick.startFrame = s.startFrame.buttonTick := rfl

theorem State.buttonTick_compose (d : Fin 10) (s : State) :
    s.buttonTick.compose d = (s.compose d).buttonTick := by
  simp only [State.compose, State.buttonTick, State.ports, State.event]

theorem State.buttonTick_display (d : Fin 10) (s : State) :
    s.buttonTick.display d = (s.display d).buttonTick := by
  cases h : s.drv.initOk <;>
    simp only [State.display, State.buttonTick_drv, h, if_true, State.buttonTick_compose,
      State.buttonTick_startFrame, State.buttonTick_raise, Bool.false_eq_true, if_false]

/-! Operands -/

theorem digitOf_some {d : Byte} {k : Fin 10} (h : digitOf d = some k) : d.toNat = k.val := by
  simp only [digitOf] at h
  split at h
  · cases h; rfl
  · cases h

theorem digitOf_of_le {d : Byte} (h : d.toNat ≤ 9) : digitOf d = some ⟨d.toNat, by omega⟩ := by
  simp [digitOf, h]

theorem digitOf_eq_none {d : Byte} : digitOf d = none ↔ 9 < d.toNat := by
  simp [digitOf]

theorem asciiDigitOf_some {c : Byte} {k : Fin 10} (h : asciiDigitOf c = some k) : c.toNat = 0x30 + k.val := by
  simp only [asciiDigitOf] at h
  split at h
  · cases h; simp only; omega
  · cases h

theorem asciiDigitOf_eq_none {c : Byte} : asciiDigitOf c = none ↔ c.toNat < 0x30 ∨ 0x39 < c.toNat := by
  simp only [asciiDigitOf]
  split <;> simp <;> omega

theorem pixelOf_eq (i : Fin 25) : pixelOf (0x10 + BitVec.ofNat 8 i) = some i := by
  revert i; decide

end Sys2Proof.Machine
end

