-- ==== Sys2Proof/Laws/Exec.lean ====
section
/-! SUPPORT. One lemma for each meaning: every next state it can answer. -/

namespace Sys2Proof.Machine

/-- `INIT` (R81): a sequence error, a claim of pool 0 if it is free and else of pool 1 if that is, or the fatal
exception. -/
theorem execInit_cases (pin : Byte) (s : State) :
    (s.drv.initOk = true ∧ execInit pin s = .next (s.raise .sequenceError)) ∨
    (s.drv.initOk = false ∧ ∃ sel, s.ports.tgAvail[0] = !sel ∧ (sel = true → s.ports.tgAvail[1] = true) ∧
      execInit pin s = .next (s.claim sel pin)) ∨
    (s.drv.initOk = false ∧ s.ports.tgAvail[0] = false ∧ s.ports.tgAvail[1] = false ∧
      execInit pin s = .next (s.raise .fatalNoTimingGenerator)) := by
  cases h : s.drv.initOk <;> cases h0 : s.ports.tgAvail[0] <;>
    cases h1 : s.ports.tgAvail[1] <;> simp [execInit, h, h0, h1]

/-- `WR` (R84): a frame of the buffer as it is, or a sequence error. -/
theorem execWr_cases (s : State) :
    (s.drv.initOk = true ∧ execWr s = .next s.startFrame) ∨
    (s.drv.initOk = false ∧ execWr s = .next (s.raise .sequenceError)) := by
  cases h : s.drv.initOk <;> simp [execWr, h]

/-- `DIG` (R111): a legal digit is displayed, any other is a range error, and a sequence error too before `INIT`. -/
theorem execDig_cases (d : Byte) (s : State) :
    (∃ k, digitOf d = some k ∧ execDig d s = .next (s.display k)) ∨
    (digitOf d = none ∧ s.drv.initOk = true ∧ execDig d s = .next (s.raise .rangeError)) ∨
    (digitOf d = none ∧ s.drv.initOk = false ∧
      execDig d s = .next ((s.raise .rangeError).raise .sequenceError)) := by
  cases hd : digitOf d with
  | some k => exact .inl ⟨k, rfl, by simp [execDig, hd]⟩
  | none => cases h : s.drv.initOk <;> simp [execDig, hd, h]

/-- `CHR` (R114): an ASCII digit is displayed, any other byte changes nothing. -/
theorem execChr_cases (c : Byte) (s : State) :
    (∃ k, asciiDigitOf c = some k ∧ execChr c s = .next (s.display k)) ∨
    (asciiDigitOf c = none ∧ execChr c s = .next s) := by
  cases hc : asciiDigitOf c with
  | some k => exact .inl ⟨k, rfl, by simp [execChr, hc]⟩
  | none => exact .inr ⟨rfl, by simp [execChr, hc]⟩

/-- `RD` (R150, R158): a response, and `IllegalCommand` with it for a reserved number. -/
theorem execRd_cases (n : Byte) (s : State) :
    (registerDefined n = true ∧ execRd n s = .next (s.respond (regRead s n))) ∨
    (registerDefined n = false ∧ execRd n s = .next ((s.respond (regRead s n)).raise .illegalCommand)) := by
  cases h : registerDefined n <;> simp [execRd, h]

/-- What a command can do to the state, over all commands: a list of the shared operations it applies. -/
inductive Effect (i : Instr) (s : State) : State → Prop where
  | sequence : s.drv.initOk = (match i with | .init _ => true | _ => false) →
      (∀ n, i ≠ .rd n) → Effect i s (s.raise .sequenceError)
  | claim (pin : Byte) (sel : Bool) : i = .init pin → s.drv.initOk = false → s.ports.tgAvail[0] = !sel →
      (sel = true → s.ports.tgAvail[1] = true) → Effect i s (s.claim sel pin)
  | fatal (pin : Byte) : i = .init pin → s.drv.initOk = false → s.ports.tgAvail = 0 →
      Effect i s (s.raise .fatalNoTimingGenerator)
  | send : i = .wr → s.drv.initOk = true → Effect i s s.startFrame
  | display (k : Fin 10) : (∃ d, i = .dig d ∧ digitOf d = some k) ∨ (∃ c, i = .chr c ∧ asciiDigitOf c = some k) →
      s.drv.initOk = true → Effect i s (s.compose k).startFrame
  | range (d : Byte) : i = .dig d → digitOf d = none → s.drv.initOk = true → Effect i s (s.raise .rangeError)
  | both (d : Byte) : i = .dig d → digitOf d = none → s.drv.initOk = false →
      Effect i s ((s.raise .rangeError).raise .sequenceError)
  | nothing (c : Byte) : i = .chr c → asciiDigitOf c = none → Effect i s s
  | read (n : Byte) : i = .rd n → registerDefined n = true → Effect i s (s.respond (regRead s n))
  | readReserved (n : Byte) : i = .rd n → registerDefined n = false →
      Effect i s ((s.respond (regRead s n)).raise .illegalCommand)

/-- Every command answers a next state, and it is one of the effects above. -/
theorem exec_cases (i : Instr) (s : State) : ∃ t, exec i s = .next t ∧ Effect i s t := by
  cases i with
  | init pin =>
    obtain ⟨h, e⟩ | ⟨h, sel, h0, h1, e⟩ | ⟨h, h0, h1, e⟩ := execInit_cases pin s
    · exact ⟨_, e, .sequence (by simp [h]) (by simp)⟩
    · exact ⟨_, e, .claim pin sel rfl h h0 h1⟩
    · refine ⟨_, e, .fatal pin rfl h ?_⟩
      apply BitVec.eq_of_getLsbD_eq
      intro j hj
      obtain rfl | rfl : j = 0 ∨ j = 1 := by omega
      · simp [h0]
      · simp [h1]
  | wr =>
    obtain ⟨h, e⟩ | ⟨h, e⟩ := execWr_cases s
    · exact ⟨_, e, .send rfl h⟩
    · exact ⟨_, e, .sequence (by simp [h]) (by simp)⟩
  | dig d =>
    obtain ⟨k, hk, e⟩ | ⟨hd, h, e⟩ | ⟨hd, h, e⟩ := execDig_cases d s
    · obtain ⟨h, e'⟩ | ⟨h, e'⟩ := s.display_cases k
      · exact ⟨_, e, e' ▸ .display k (.inl ⟨d, rfl, hk⟩) h⟩
      · exact ⟨_, e, e' ▸ .sequence (by simp [h]) (by simp)⟩
    · exact ⟨_, e, .range d rfl hd h⟩
    · exact ⟨_, e, .both d rfl hd h⟩
  | chr c =>
    obtain ⟨k, hk, e⟩ | ⟨hc, e⟩ := execChr_cases c s
    · obtain ⟨h, e'⟩ | ⟨h, e'⟩ := s.display_cases k
      · exact ⟨_, e, e' ▸ .display k (.inr ⟨c, rfl, hk⟩) h⟩
      · exact ⟨_, e, e' ▸ .sequence (by simp [h]) (by simp)⟩
    · exact ⟨_, e, .nothing c rfl hc⟩
  | rd n =>
    obtain ⟨h, e⟩ | ⟨h, e⟩ := execRd_cases n s
    · exact ⟨_, e, .read n rfl h⟩
    · exact ⟨_, e, .readReserved n rfl h⟩

end Sys2Proof.Machine
end

