-- ==== Sys2Proof/Laws/PerInstr.lean ====
section
/-! SUPPORT. The family `EncodingTable`: a command's word lies in its own row of the opcode table and in no other row,
and its fields pass the form checks (`30_encoding.md` R62, R64). -/

namespace Sys2Proof.Laws.EncodingTable

/-- The word matches its row (`w & mask = match`), carries the operand in bits 7:0, and is well formed. -/
def Statement (i : Instr) : Prop :=
  encode i &&& i.tableRow.2 = i.tableRow.1 ∧ (encode i).extractLsb' 0 8 = i.fields.arg ∧ i.wellFormed = true

theorem low_byte (i : Instr) : (encode i).extractLsb' 0 8 = i.fields.arg :=
  BitVec.extractLsb'_append_eq_right

theorem init (pin : Byte) : Statement (.init pin) :=
  ⟨by revert pin; decide, low_byte _, rfl⟩

theorem wr : Statement .wr := ⟨by decide, low_byte _, by decide⟩

theorem dig (d : Byte) : Statement (.dig d) :=
  ⟨by revert d; decide, low_byte _, rfl⟩

theorem chr (c : Byte) : Statement (.chr c) :=
  ⟨by revert c; decide, low_byte _, rfl⟩

theorem rd (n : Byte) : Statement (.rd n) :=
  ⟨by revert n; decide, low_byte _, rfl⟩

end Sys2Proof.Laws.EncodingTable
end

