-- ==== Sys2Proof/Laws/Step.lean ====
section
/-! SUPPORT. What a step can do: the cases of `tickKind`, and one inversion lemma for `step`. -/

namespace Sys2Proof.Machine

theorem State.tickKind_reset {s : State} (h : s.event = .reset) : s.tickKind = .reset := by
  simp [State.tickKind, h]

theorem State.tickKind_frozen {s : State} {p : Ports} (h : s.event = .tick p) (hh : s.halt = true) :
    s.tickKind = .frozen := by
  simp [State.tickKind, h, hh]

theorem State.cmdReady_of_tick {s : State} {p : Ports} (h : s.event = .tick p) :
    s.cmdReady = (decide (s.ser.phase = .idle) && !s.halt) := by
  simp [State.cmdReady, h]

theorem State.tickKind_run {s : State} {p : Ports} {i : Instr} (h : s.event = .tick p) (hh : s.halt = false)
    (hs : s.ser.phase = .idle) (hv : p.cmdValid = true) (hd : decode p.cmd = .ok i) : s.tickKind = .run i := by
  simp [State.tickKind, h, hh, hd, State.accepts, State.cmdReady, hs, hv, State.ports_of_tick h]

theorem State.tickKind_illegal {s : State} {p : Ports} {e : Illegal} (h : s.event = .tick p)
    (hh : s.halt = false) (hs : s.ser.phase = .idle) (hv : p.cmdValid = true) (hd : decode p.cmd = .error e) :
    s.tickKind = .illegal e := by
  simp [State.tickKind, h, hh, hd, State.accepts, State.cmdReady, hs, hv, State.ports_of_tick h]

theorem State.tickKind_quiet {s : State} {p : Ports} (h : s.event = .tick p) (hh : s.halt = false)
    (hn : s.ser.phase ≠ .idle ∨ p.cmdValid = false) : s.tickKind = .quiet := by
  obtain hn | hn := hn <;>
    simp [State.tickKind, h, hh, State.accepts, State.cmdReady, hn, State.ports_of_tick h]

/-- Everything a step can do, guards included. -/
inductive StepCase (s : State) : State → Prop where
  | reset : s.event = .reset → StepCase s s.applyReset
  | frozen (p : Ports) : s.event = .tick p → s.halt = true → StepCase s s.advance
  | quiet (p : Ports) : s.event = .tick p → s.halt = false → s.accepts = false →
      StepCase s s.beginTick.finishTick
  | illegal (p : Ports) (e : Illegal) : s.event = .tick p → s.halt = false → s.ser.phase = .idle →
      p.cmdValid = true → decode p.cmd = .error e →
      StepCase s (s.clearResponse.raise .illegalCommand).finishTick
  | run (p : Ports) (i : Instr) (t : State) : s.event = .tick p → s.halt = false → s.ser.phase = .idle →
      p.cmdValid = true → decode p.cmd = .ok i → Effect i s.clearResponse t → StepCase s t.finishTick

theorem State.accepts_spec {s : State} {p : Ports} (h : s.event = .tick p) (ha : s.accepts = true) :
    p.cmdValid = true ∧ s.ser.phase = .idle ∧ s.halt = false := by
  simpa [State.accepts, State.cmdReady, h, State.ports_of_tick h, and_assoc] using ha

/-- A step always answers a next state, in one of the cases above. -/
theorem step_cases (s : State) : ∃ t, step s = .next t ∧ StepCase s t := by
  cases hev : s.event with
  | reset => exact ⟨_, by simp [step, State.tickKind_reset hev], .reset hev⟩
  | tick p =>
    cases hh : s.halt with
    | true => exact ⟨_, by simp [step, State.tickKind_frozen hev hh], .frozen p hev hh⟩
    | false =>
      cases ha : s.accepts with
      | false => exact ⟨_, by simp [step, State.tickKind, hev, hh, ha], .quiet p hev hh ha⟩
      | true =>
        obtain ⟨hv, hs, -⟩ := State.accepts_spec hev ha
        cases hd : decode p.cmd with
        | error e =>
          refine ⟨_, ?_, .illegal p e hev hh hs hv hd⟩
          simp [step, State.tickKind_illegal hev hh hs hv hd, State.beginTick_of_idle hs]
        | ok i =>
          obtain ⟨t, ht, he⟩ := exec_cases i s.clearResponse
          refine ⟨_, ?_, .run p i t hev hh hs hv hd he⟩
          simp [step, State.tickKind_run hev hh hs hv hd, State.beginTick_of_idle hs, ht]

/-- The inversion lemma: if a step answers `t`, one of the cases holds of `t`. -/
theorem StepCase.of_step {s t : State} (h : step s = .next t) : StepCase s t := by
  obtain ⟨u, hu, hc⟩ := step_cases s
  rw [hu] at h
  cases h
  exact hc

end Sys2Proof.Machine
end

