-- ==== Sys2Proof/Laws/Run.lean ====
section
/-! SUPPORT. Runs of several steps: one more step at the end, every run answers a next state, and the inputs of a run are
the coming events in order. -/

namespace Sys2Proof.Machine

theorem after_zero (s : State) : after 0 s = .next s := rfl

theorem run_succ (M : Host.Core) (n : Nat) (s s' : M.State) (h : M.step s = .next s') :
    M.run (n + 1) s = M.run n s' := by
  simp only [Host.Core.run, h]

/-- One step at the front of a run. -/
theorem after_cons {s u : State} (h : step s = .next u) (n : Nat) : after (n + 1) s = after n u :=
  run_succ Sys2Proof.core n s u h

theorem after_one (s : State) : after 1 s = step s := by
  obtain ⟨t, ht, -⟩ := step_cases s
  rw [after_cons ht, ht]
  rfl

/-- One more step at the end of a run. -/
theorem after_succ {k : Nat} {s t : State} (h : after k s = .next t) : after (k + 1) s = step t := by
  induction k generalizing s with
  | zero => cases h; exact after_one _
  | succ k ih =>
    obtain ⟨u, hu, -⟩ := step_cases s
    rw [after_cons hu] at h ⊢
    exact ih h

/-- Every run answers a next state. -/
theorem after_total (k : Nat) (s : State) : ∃ t, after k s = .next t := by
  induction k with
  | zero => exact ⟨s, rfl⟩
  | succ k ih =>
    obtain ⟨t, ht⟩ := ih
    obtain ⟨u, hu, -⟩ := step_cases t
    exact ⟨u, by rw [after_succ ht, hu]⟩

/-- A step moves the inputs on by one event. -/
theorem step_env {s t : State} (h : step s = .next t) : t.env = s.env.advance := by
  cases StepCase.of_step h with
  | run p i u _ _ _ _ _ hf => cases hf <;> simp
  | _ => simp

/-- After `k` steps the coming event `j` is the event `k + j` of before. -/
theorem after_upcoming {k : Nat} {s t : State} (h : after k s = .next t) (j : Nat) :
    t.env.upcoming j = s.env.upcoming (k + j) := by
  induction k generalizing t j with
  | zero => cases h; rw [Nat.zero_add]
  | succ k ih =>
    obtain ⟨u, hu⟩ := after_total k s
    rw [after_succ hu] at h
    rw [step_env h, Env.upcoming_advance, ih hu]
    congr 1
    omega

/-- A tick while a frame or its gap is on the line: only the response, the serializer, the channels and the inputs
move. -/
theorem step_busy {s : State} {p : Ports} (he : s.event = .tick p) (hh : s.halt = false)
    (hs : s.ser.phase ≠ .idle) : step s = .next s.beginTick.finishTick := by
  simp [step, State.tickKind_quiet he hh (.inl hs)]

end Sys2Proof.Machine
end

