-- ==== Sys2Proof/Laws/Transaction.lean ====
section
/-! SUPPORT. What a change at the transaction level can do. -/

namespace Sys2Proof.Machine

@[simp] theorem State.edge_par (ch : Channel) (now : Word32) (s : State) : (s.edge ch now).par = s.par := by
  cases ch <;> rfl
@[simp] theorem State.edge_env (ch : Channel) (now : Word32) (s : State) : (s.edge ch now).env = s.env := by
  cases ch <;> rfl
@[simp] theorem State.edge_ser (ch : Channel) (now : Word32) (s : State) : (s.edge ch now).ser = s.ser := by
  cases ch <;> rfl
@[simp] theorem State.edge_rsp (ch : Channel) (now : Word32) (s : State) : (s.edge ch now).rsp = s.rsp := by
  cases ch <;> rfl
@[simp] theorem State.edge_halt (ch : Channel) (now : Word32) (s : State) : (s.edge ch now).halt = s.halt := by
  cases ch <;> rfl

/-- A legal command in a block that is not halted: some effect of `exec`, the frame and gap over. -/
theorem txStep_command {s : State} {w : CommandWord} {i : Instr} (tg : BitVec 2) (hh : s.halt = false)
    (hd : decode w = .ok i) :
    ∃ t, Effect i (s.clearResponse.withPools tg) t ∧
      txStep (.command w tg) s = .next ({ t.settle with env := s.env }, lineEvents s t) := by
  obtain ⟨t, ht, he⟩ := exec_cases i (s.clearResponse.withPools tg)
  exact ⟨t, he, by simp [txStep, hh, hd, ht]⟩

/-- Every change answers a next state, and touches neither the parameters nor the cycle level's inputs. -/
theorem txStep_answers (e : TxEvent) (s : State) :
    ∃ t evs, txStep e s = .next (t, evs) ∧ t.par = s.par ∧ t.env = s.env := by
  cases e with
  | reset => exact ⟨_, _, rfl, rfl, rfl⟩
  | edge ch now => exact ⟨_, _, rfl, by split <;> simp, by split <;> simp⟩
  | tick a b => exact ⟨_, _, rfl, by split <;> simp, by split <;> simp⟩
  | command w tg =>
    cases hh : s.halt with
    | true => exact ⟨s, [], by simp [txStep, hh], rfl, rfl⟩
    | false =>
      cases hd : decode w with
      | error e => exact ⟨s.clearResponse.raise .illegalCommand, [], by simp [txStep, hh, hd], by simp, by simp⟩
      | ok i =>
        obtain ⟨t, he, h⟩ := txStep_command tg hh hd
        exact ⟨_, _, h, by cases he <;> simp, rfl⟩

end Sys2Proof.Machine
end

