-- ==== Sys2Proof/Machine/HostLoop.lean ====
section
/-! DEFINITION. The reference host of `44_host_loop.md`, as the commands it issues and what it reads from `LEVEL`. It
is software outside the block (`00_scope.md` R4); nothing here is behaviour of the block. -/

namespace Sys2Proof.Machine

/-- Boot: one `INIT pin` (R166). -/
def hostBoot (pin : Byte) : List Instr := [.init pin]

/-- One iteration of the main loop: `CHR b` if a byte was available, then `RD LEVEL` (R167). -/
def hostIteration (byte : Option Byte) : List Instr := (byte.map Instr.chr).toList ++ [rdLevel]

/-- The green indicator follows `LEVEL` bit 0, button A (R167, R168). -/
def greenIndicator (level : Word32) : Bool := level.getLsbD 0

/-- The blue indicator follows `LEVEL` bit 1, button B (R167, R168). -/
def blueIndicator (level : Word32) : Bool := level.getLsbD 1

end Sys2Proof.Machine
end

