-- ==== Sys2Proof/Tests/Slice0.lean ====
section
/-! SUPPORT. Tests with expected values from `95_test_vectors.md` and the rules' worked examples, and for every statement
with hypotheses a witness that meets them. Tests that need a glyph use the placeholder `GLYPH_REF`. -/

namespace Sys2Proof.Tests

open Sys2Proof Sys2Proof.Machine

/-! ## Helpers -/

/-- A tick at which word `w` is offered: buttons released, time 0, both pools free. -/
def word (w : CommandWord) : Ports := ⟨true, w, 0, true, true, 0b11⟩

/-- A tick with no command, the given time and the given level of pin A. -/
def pinA (now : Word32) (a : Bool) : Ports := ⟨false, 0, now, a, true, 0b11⟩

/-- The block after reset, with these coming ticks and `GLYPH_REF`. -/
def fresh (ps : List Ports) : State :=
  { State.reset with par := ⟨Config.glyphRef, false⟩, env := ⟨ps.map .tick, 0⟩ }

/-- The block after `INIT 0` on pool 0. -/
def inited (ps : List Ports) : State := { fresh ps with drv := ⟨true, false, 0⟩ }

/-- What holds of the answer of a step or a run. -/
def answers (o : Host.Outcome State Fault Refusal) (f : State → Bool) : Bool :=
  match o with
  | .next t => f t
  | .fault _ => false
  | .refused _ => false

/-- The indices of the red pixels. -/
def redCells (s : State) : List Nat := (List.range 25).filter fun i => s.pix.toList[i]? == some RED

/-! ## Encoding (vectors V-E) -/

theorem test_decode_init : decode 0b0001000000000111#16 = .ok (.init 7) := rfl
theorem test_decode_init_255 : decode 0x10FF#16 = .ok (.init 255) := rfl
theorem test_decode_wr : decode 0b0010000000000000#16 = .ok .wr := rfl
theorem test_decode_wr_arg : decode 0x2001#16 = .error .wrArgument := rfl
theorem test_decode_dig : decode 0b0011000000001001#16 = .ok (.dig 9) := rfl
theorem test_decode_dig_255 : decode 0x30FF#16 = .ok (.dig 255) := rfl
theorem test_decode_chr : decode 0b0100000000110111#16 = .ok (.chr 0x37) := rfl
theorem test_decode_rd : decode 0b0101000000101000#16 = .ok (.rd 0x28) := rfl
theorem test_decode_zero : decode 0x0000#16 = .error .unassignedOp := rfl
theorem test_decode_ffff : decode 0xFFFF#16 = .error .reservedField := rfl
theorem test_decode_rsv : decode 0x3105#16 = .error .reservedField := rfl
theorem test_decode_op6 : decode 0x6000#16 = .error .unassignedOp := rfl
theorem test_table_word : decodeTableWord 16 0x3009 = some (.dig 9) := by decide
theorem test_encode : encode (.rd 0x28) = 0x5028#16 ∧ encode .wr = 0x2000#16 ∧ encode (.init 7) = 0x1007#16 := by
  decide
theorem test_pseudo_commands : encode rdPin = 0x5005#16 ∧ encode (rdPix 24) = 0x5028#16 ∧
    encode (chrOf '7') = 0x4037#16 := by decide

/-! An ill-formed term for each check of `WellFormed.lean`. -/

theorem test_wellFormed_refuses_rsv : C16.wellFormed ⟨3, 1, 5⟩ = false := by decide
theorem test_wellFormed_refuses_op : C16.wellFormed ⟨6, 0, 0⟩ = false ∧ C16.wellFormed ⟨0, 0, 0⟩ = false := by decide
theorem test_wellFormed_refuses_wr_arg : C16.wellFormed ⟨2, 0, 1⟩ = false := by decide
theorem test_wellFormed_accepts : C16.wellFormed ⟨2, 0, 0⟩ = true ∧ C16.wellFormed ⟨5, 0, 255⟩ = true := by decide

/-! ## The parameters (`00_scope.md` R5) and the placeholder table (`41_matrix_renderer.md` R118) -/

theorem test_parameter_constraints : 0 < Config.t0h ∧ Config.t0h < Config.t1h ∧ Config.t1h < Config.tbit ∧
    Config.tbit * Config.bitRate = Config.fClk ∧ Config.gapUs * Config.fClk ≤ Config.gapTicks * 1000000 ∧
    Config.rows * Config.cols = Config.nPix ∧ Config.frameBytes * 8 = Config.frameBits := by decide
theorem test_lit_cells_of_glyphRef :
    ((List.finRange 10).map fun d => ((List.range 25).filter fun i => Config.glyphRef[d].getLsbD i).length) =
      [16, 8, 17, 17, 11, 17, 18, 9, 19, 18] := by decide
theorem test_mapper : idx 2 3 = 13 ∧ row 13 = 2 ∧ col 13 = 3 ∧ row 5 = 1 ∧ col 5 = 0 := by decide

/-! ## `INIT` (V-I) -/

theorem test_init_pool0 : answers (step (fresh [word 0x1007])) (fun t => t.drv == ⟨true, false, 7⟩) = true := by decide
theorem test_init_pool1 :
    answers (step (fresh [{ word 0x1007 with tgAvail := 0b10 }])) (fun t => t.drv == ⟨true, true, 7⟩) = true := by
  decide
theorem test_init_halts :
    answers (step (fresh [{ word 0x1007 with tgAvail := 0b00 }])) (fun t => t.halt && t.drv == ⟨false, false, 0⟩) =
      true := by decide
theorem test_init_twice :
    answers (after 3 (fresh [word 0x1003, word 0x1004, word 0x5000])) (fun t => t.rsp == ⟨true, 0x21⟩ && t.drv.pin == 3)
      = true := by decide

/-! ## `WR` and the line (V-W) -/

theorem test_wr_starts : answers (step (inited [word 0x2000, word 0x5000]))
    (fun t => t.ser == ⟨.shift, 0, 0, 0⟩ && t.dout && !t.cmdReady) = true := by decide
theorem test_wr_before_init : answers (after 2 (fresh [word 0x2000, word 0x5000]))
    (fun t => t.rsp == ⟨true, 0x20⟩) = true := by decide
/-- V-W3: the first 24 bits on the wire of the pixel `A50F3C`. -/
theorem test_wire_bits : (List.range 24).map (wireBit [0xA5, 0x0F, 0x3C]) =
    [true, false, true, false, false, true, false, true, false, false, false, false, true, true, true, true,
     false, false, true, true, true, true, false, false] := by decide
/-- V-W3: a bit period of a 0 is high for 3 ticks and low for 7, of a 1 high for 6 and low for 4. -/
theorem test_bit_periods :
    ((List.finRange 10).map fun k => ({ inited [] with ser := ⟨.shift, 0, k, 0⟩ } : State).dout) =
      [true, true, true, false, false, false, false, false, false, false] ∧
    ((List.finRange 10).map fun k =>
      ({ inited [] with pix := Vector.replicate 25 RED, ser := ⟨.shift, 8, k, 0⟩ } : State).dout) =
      [true, true, true, true, true, true, false, false, false, false] := by decide
/-- V-W2, k = 9 to 10 and k = 5999 to 6000, 6799 to 6800. -/
theorem test_serializer_steps : Serializer.step ⟨.shift, 0, 9, 0⟩ = ⟨.shift, 1, 0, 0⟩ ∧
    Serializer.step ⟨.shift, 599, 9, 5⟩ = ⟨.gap, 599, 9, 0⟩ ∧ Serializer.step ⟨.gap, 599, 9, 799⟩ = ⟨.idle, 599, 9, 799⟩ := by
  decide

/-! ## `DIG` and `CHR` (V-D, V-F, V-C) -/

theorem test_dig7 : answers (step (inited [word 0x3007]))
    (fun t => redCells t == [0, 1, 2, 3, 4, 9, 13, 17, 22] && t.ser.phase == .shift) = true := by decide
theorem test_dig1_frame : answers (step (inited [word 0x3001]))
    (fun t => ((List.range 75).filter fun k => (frameBytes t.pix)[k]? == some 0xFF) == [7, 19, 22, 37, 52, 64, 67, 70])
      = true := by decide
theorem test_dig10 : answers (after 2 (inited [word 0x300A, word 0x5000]))
    (fun t => t.rsp == ⟨true, 0x11⟩ && redCells t == []) = true := by decide
theorem test_dig12_before_init : answers (after 2 (fresh [word 0x300C, word 0x5000]))
    (fun t => t.rsp == ⟨true, 0x30⟩) = true := by decide
theorem test_chr7 : answers (step (inited [word 0x4037]))
    (fun t => redCells t == [0, 1, 2, 3, 4, 9, 13, 17, 22]) = true := by decide
theorem test_chr_neighbours : exec (.chr 0x2F) (inited []) = .next (inited []) ∧
    exec (.chr 0x3A) (inited []) = .next (inited []) ∧ exec (.chr 0x07) (fresh []) = .next (fresh []) := ⟨rfl, rfl, rfl⟩

/-! ## `RD` (V-R) -/

theorem test_rd_status : answers (step (fresh [word 0x5000])) (fun t => t.rsp == ⟨true, 0⟩) = true := by decide
theorem test_rd_reserved : answers (after 2 (fresh [word 0x5006, word 0x5000]))
    (fun t => t.rsp == ⟨true, 0x40⟩) = true := by decide
/-- V-R11: the edge accepted on the tick of the read is seen by the next read only. -/
theorem test_rd_flags_on_edge_tick :
    (let s := { fresh [{ word 0x5002 with nowMs := 1000 }, word 0x5002] with btnA := ⟨false, false, true, 0, false, false⟩ }
     answers (step s) (fun t => t.rsp == ⟨true, 0⟩) && answers (after 2 s) (fun t => t.rsp == ⟨true, 1⟩)) = true := by
  decide
theorem test_illegal_word : answers (after 2 (fresh [word 0x0000, word 0x5000]))
    (fun t => t.rsp == ⟨true, 0x40⟩) = true := by decide

/-! ## Buttons (V-B) -/

theorem test_edge_199_200 : ButtonChannel.debounce false 1199 ⟨true, true, true, 1000, true, true⟩ =
      ⟨true, true, true, 1000, true, true⟩ ∧
    ButtonChannel.debounce false 1200 ⟨true, true, true, 1000, true, true⟩ = ⟨true, true, true, 1200, true, true⟩ := by
  decide
/-- V-B10 and V-B11: across the wrap of the clock. -/
theorem test_edge_wrap : (ButtonChannel.debounce false 0x63 ⟨true, true, true, 0xFFFFFF9C, true, true⟩).ts = 0xFFFFFF9C ∧
    (ButtonChannel.debounce false 0x64 ⟨true, true, true, 0xFFFFFF9C, true, true⟩).ts = 0x64 := by decide
/-- V-B14: the pin falls before the tick and the edge is accepted on the third tick, not on the second. -/
theorem test_edge_latency :
    (let s := fresh (List.replicate 3 (pinA 1000 false))
     answers (after 2 s) (fun t => !t.btnA.flag && t.btnA.level) && answers (after 3 s) (fun t => t.btnA.flag)) = true := by
  decide
/-- V-B16: a rise is no event. -/
theorem test_rise : ButtonChannel.falling ⟨true, true, false, 0, false, false⟩ = false := by decide

/-! ## Reset and the halted state (V-X) -/

theorem test_reset_in_frame :
    (match step { inited [] with ser := ⟨.shift, 300, 0, 0⟩, env := ⟨[.reset], 0⟩ } with
      | .next t => !t.dout && !t.drv.initOk && t.ser == ⟨.idle, 0, 0, 0⟩
      | _ => false) = true := by decide
theorem test_halted : answers (step { fresh [word 0x5000] with halt := true }) (fun t => t.halt && !t.rsp.valid) = true := by
  decide

/-! ## The transaction level and the host -/

theorem test_transaction_dig : (match txStep (.command 0x3001 0b11) (inited []) with
    | .next (t, [.frame b, .gap]) => b == frameBytes t.pix && redCells t == [2, 6, 7, 12, 17, 21, 22, 23]
    | _ => false) = true := by decide
theorem test_transaction_edges : (match txStep (.edge .b 1160) (fresh []) with
    | .next (t, []) => t.btnB.ts == 1160 && t.btnB.flag && !t.btnA.flag
    | _ => false) = true := by decide
/-- R141, R25: a pressed A reads 1 after a `TICK`, and the `TICK` clears the response of an earlier `RD`. -/
theorem test_transaction_level : (match txStep (.tick false true) { fresh [] with rsp := ⟨true, 5⟩ } with
    | .next (t, []) => t.rsp == ⟨false, 5⟩ && (match txStep (.command 0x5001 0b11) t with
      | .next (u, []) => u.rsp == ⟨true, 1⟩
      | _ => false)
    | _ => false) = true := by decide
/-- R170: a coming reset is no quiescent point, a coming tick without a word is one. -/
theorem test_quiescent : ({ fresh [] with env := ⟨[.reset], 0⟩ } : State).quiescent = false ∧
    (fresh [pinA 0 true]).quiescent = true ∧ (fresh [word 0x5000]).quiescent = false := by decide
theorem test_host_iteration : hostBoot 7 ++ hostIteration (some 0x33) ++ hostIteration none =
    [.init 7, .chr 0x33, .rd 1, .rd 1] ∧ greenIndicator 1 = true ∧ blueIndicator 1 = false := by decide

/-! ## Witnesses: the hypotheses of every statement that has any, met together -/

/-- The next events of a state whose list holds ticks only are ticks. -/
theorem ticksAhead_replicate (s : State) (p : Ports) (n : Nat) (h : s.env.feed = List.replicate n (.tick p)) :
    s.TicksAhead n := by
  intro j hj
  exact ⟨p, by simp [Env.upcoming, h, hj]⟩

/-- An initialised block offered `WR` for a long time. -/
def sending : State := { inited [] with env := ⟨List.replicate 7000 (.tick (word 0x2000)), 0⟩ }

theorem sending_event : sending.event = .tick (word 0x2000) := rfl
theorem sending_ticks (n : Nat) (h : n ≤ 7000) : sending.TicksAhead n :=
  fun j hj => ticksAhead_replicate sending (word 0x2000) 7000 rfl j (by omega)
theorem sending_accepted : sending.FrameAccepted :=
  ⟨.wr, State.tickKind_run sending_event rfl rfl rfl rfl, rfl⟩

theorem witness_DecodingAlgorithm : (0x10FF#16).toNat / 256 % 16 = 0 ∧ (0x10FF#16).toNat / 4096 = 1 ∧
    (0x2000#16).toNat / 4096 = 2 ∧ (0x2000#16).toNat % 256 = 0 ∧ (0x20FF#16).toNat % 256 ≠ 0 ∧
    (0x3000#16).toNat / 4096 = 3 ∧ (0x40FF#16).toNat / 4096 = 4 ∧ (0x5000#16).toNat / 4096 = 5 ∧
    (0x0000#16).toNat / 4096 = 0 ∧ 6 ≤ (0x6000#16).toNat / 4096 ∧ 6 ≤ (0xF000#16).toNat / 4096 ∧
    (0x3100#16).toNat / 256 % 16 ≠ 0 ∧ (0x3F00#16).toNat / 256 % 16 ≠ 0 := by decide
theorem witness_EncodeOfDecode : decode 0x2000#16 = .ok .wr := rfl
theorem witness_OfferedTableWordRuns : decodeTableWord 16 0x5028 = some (.rd 0x28) := by decide
theorem witness_ResetValues : (⟨[.tick (word 0)], 0⟩ : Env).upcoming 0 = .tick (word 0) := rfl
theorem witness_ResetReplacesTheState : { sending with env := ⟨[.reset], 0⟩ }.event = .reset := rfl
theorem witness_InitClaimTable : ((fresh []).drv.initOk = false) ∧
    ∀ tg : BitVec 2, (fresh [{ word 0x1007 with tgAvail := tg }]).ports.tgAvail = tg := ⟨rfl, fun _ => rfl⟩
theorem witness_SecondInitOnlySetsErrSeq : (inited []).drv.initOk = true := rfl
theorem witness_WrSendsTheBuffer : (inited []).drv.initOk = true ∧ (fresh []).drv.initOk = false := ⟨rfl, rfl⟩
theorem witness_SequenceErrors : (fresh []).drv.initOk = false ∧ (inited []).drv.initOk = true ∧ (9#8).toNat ≤ 9 ∧
    10 ≤ (10#8).toNat ∧ 0x30 ≤ (0x30#8).toNat ∧ (0x39#8).toNat ≤ 0x39 := by decide
theorem witness_DigComposesAndSends : (0#8).toNat < 10 ∧ (9#8).toNat < 10 ∧ (inited []).drv.initOk = true := by decide
theorem witness_OutOfRangeDigitIsRejected : 10 ≤ (10#8).toNat ∧ 10 ≤ (255#8).toNat ∧ (inited []).drv.initOk = true ∧
    (fresh []).drv.initOk = false ∧
    ∃ t, exec (.dig 10) (inited []) = .next t ∧ t.err.range ≠ (inited []).err.range :=
  ⟨by decide, by decide, rfl, rfl, _, rfl, by decide⟩
theorem witness_ChrRoutesTheByte : (0x30 ≤ (0x30#8).toNat ∧ (0x30#8).toNat ≤ 0x39) ∧
    (0x30 ≤ (0x39#8).toNat ∧ (0x39#8).toNat ≤ 0x39) ∧ (0x2F#8).toNat < 0x30 ∧ 0x39 < (0x3A#8).toNat ∧
    (inited []).drv.initOk = true ∧ (fresh []).drv.initOk = false := by decide
theorem witness_NoStaleCell : (9#8).toNat ≤ 9 ∧ (inited []).drv.initOk = true ∧
    { inited [] with pix := Vector.replicate 25 RED }.drv.initOk = true ∧
    (inited []).par = { inited [] with pix := Vector.replicate 25 RED }.par := ⟨by decide, rfl, rfl, rfl⟩
theorem witness_RdReservedNumber : (0x06 ≤ (0x06#8).toNat ∧ (0x06#8).toNat ≤ 0x0F) ∧
    (0x06 ≤ (0x0F#8).toNat ∧ (0x0F#8).toNat ≤ 0x0F) ∧ 0x29 ≤ (0x29#8).toNat ∧ 0x29 ≤ (0xFF#8).toNat := by decide
theorem witness_ResponseRegister : (fresh [word 0x5000]).event = .tick (word 0x5000) ∧
    (fresh [word 0x5000]).tickKind = .run (.rd 0) ∧ (fresh [word 0x5000]).halt = false ∧
    (∀ n, (fresh [word 0x2000]).tickKind ≠ .run (.rd n)) ∧ { fresh [word 0x5000] with halt := true }.halt = true := by
  refine ⟨rfl, rfl, rfl, ?_, rfl⟩
  intro n h
  have : (fresh [word 0x2000]).tickKind = .run .wr := rfl
  rw [this] at h
  cases h
theorem witness_StepRunsTheAcceptedCommand : ∃ t, (fresh [word 0x1007]).event = .tick (word 0x1007) ∧
    (fresh [word 0x1007]).halt = false ∧ (fresh [word 0x1007]).ser.phase = .idle ∧ (word 0x1007).cmdValid = true ∧
    decode (word 0x1007).cmd = .ok (.init 7) ∧ exec (.init 7) (fresh [word 0x1007]).clearResponse = .next t :=
  ⟨_, rfl, rfl, rfl, rfl, rfl, rfl⟩
theorem witness_IllegalCommands : (fresh [word 0x6000]).event = .tick (word 0x6000) ∧
    (fresh [word 0x6000]).halt = false ∧ (fresh [word 0x6000]).ser.phase = .idle ∧ (word 0x6000).cmdValid = true ∧
    decode (word 0x6000).cmd = .error .unassignedOp ∧ 0x29 ≤ (0x29#8).toNat := ⟨rfl, rfl, rfl, rfl, rfl, by decide⟩
theorem witness_OtherCommandsTakeOneTick : (fresh [word 0x5000, pinA 0 true]).event = .tick (word 0x5000) ∧
    (fresh [word 0x5000, pinA 0 true]).accepts = true ∧ ¬ (fresh [word 0x5000, pinA 0 true]).FrameAccepted ∧
    (fresh [word 0x5000, pinA 0 true]).env.upcoming 1 = .tick (pinA 0 true) ∧ (pinA 0 true).cmdValid = false ∧
    ∃ t, step (fresh [word 0x5000, pinA 0 true]) = .next t ∧ t.halt = false := by
  refine ⟨rfl, rfl, ?_, rfl, rfl, _, rfl, rfl⟩
  rintro ⟨i, h, hs⟩
  cases h
  cases hs
theorem witness_WordOfferedWhileBusyHasNoEffect :
    { sending with ser := ⟨.gap, 0, 0, 799⟩ }.event = .tick (word 0x2000) ∧
    { sending with ser := ⟨.gap, 0, 0, 799⟩ }.halt = false ∧ { sending with ser := ⟨.gap, 0, 0, 799⟩ }.ser.phase ≠ .idle ∧
    (pinA 0 true).cmdValid = false := by decide
theorem witness_HaltedBlockIsFrozen : (fresh [{ word 0x1007 with tgAvail := 0b00 }]).drv.initOk = false ∧
    (fresh [{ word 0x1007 with tgAvail := 0b00 }]).ports.tgAvail = 0b00 ∧
    { fresh [word 0x5000] with halt := true }.halt = true ∧
    { fresh [word 0x5000] with halt := true }.event = .tick (word 0x5000) := by decide
theorem witness_OnlyAFailingInitHalts : ∃ t, step (fresh [{ word 0x1007 with tgAvail := 0b00 }]) = .next t ∧
    (fresh [{ word 0x1007 with tgAvail := 0b00 }]).halt = false ∧ t.halt = true := ⟨_, rfl, rfl, rfl⟩
theorem witness_ErrorFlagsAreSticky :
    (let s := { inited [word 0x5000] with err := ⟨true, true, true⟩ }
     s.event = .tick (word 0x5000) ∧ s.err.range = true ∧ s.err.seq = true ∧ s.err.ill = true ∧ s.faulted = true) ∧
    { fresh [word 0x5000] with halt := true }.event = .tick (word 0x5000) ∧
    { fresh [word 0x5000] with halt := true }.halt = true ∧
    ∃ t, step { fresh [word 0x5000] with halt := true } = .next t :=
  ⟨⟨rfl, rfl, rfl, rfl, rfl⟩, rfl, rfl, _, rfl⟩
theorem witness_OnlyDigitCommandsChangePixels : (inited [word 0x3001]).event = .tick (word 0x3001) ∧
    answers (step (inited [word 0x3001])) (fun t => t.pix != (inited [word 0x3001]).pix) = true := by decide
theorem witness_OnlyTheFirstInitChangesTheDriver : (fresh [word 0x1007]).event = .tick (word 0x1007) ∧
    answers (step (fresh [word 0x1007])) (fun t => t.drv != (fresh [word 0x1007]).drv) = true := by decide
theorem witness_ContextsWriteDisjointState : ∃ t, exec .wr (inited []) = .next t := ⟨_, rfl⟩
theorem witness_EdgesCommuteWithCommands : ∀ n, Instr.wr ≠ .rd n := by simp
theorem witness_ParametersNeverChange : ∃ t, step sending = .next t := (step_cases sending).imp fun _ h => h.1
theorem witness_IdleSerializer : (fresh [word 0x5000]).ser.phase = .idle ∧
    (fresh [word 0x5000]).event = .tick (word 0x5000) ∧ ¬ (fresh [word 0x5000]).FrameAccepted ∧
    ∃ t, step (fresh [word 0x5000]) = .next t := by
  refine ⟨rfl, rfl, ?_, _, rfl⟩
  rintro ⟨i, h, hs⟩
  cases h
  cases hs
theorem witness_LineLevelInShift : { inited [] with ser := ⟨.shift, 599, 9, 0⟩ }.ser.phase = .shift ∧
    { inited [] with ser := ⟨.shift, 599, 9, 0⟩ }.halt = false := ⟨rfl, rfl⟩
theorem witness_FrameTimeline : (⟨.shift, 598, 8, 0⟩ : Serializer).tick.val < 9 ∧
    (⟨.shift, 598, 9, 0⟩ : Serializer).pos.val < 599 ∧ (⟨.shift, 599, 9, 0⟩ : Serializer).pos.val = 599 ∧
    (⟨.gap, 599, 9, 798⟩ : Serializer).gapCnt.val < 799 ∧ (⟨.gap, 599, 9, 799⟩ : Serializer).gapCnt.val = 799 ∧
    { inited [] with ser := ⟨.gap, 599, 9, 799⟩ }.ser.phase = .gap ∧
    sending.FrameAccepted ∧ sending.TicksAhead 6801 :=
  ⟨by decide, by decide, rfl, by decide, rfl, rfl, sending_accepted, sending_ticks _ (by omega)⟩
theorem witness_BusyFor6800Ticks : sending.FrameAccepted ∧ sending.TicksAhead 6802 :=
  ⟨sending_accepted, sending_ticks _ (by omega)⟩
theorem witness_LineDecodesToTheFrame : sending.FrameAccepted ∧ sending.TicksAhead 6801 :=
  ⟨sending_accepted, sending_ticks _ (by omega)⟩
theorem witness_LineIsLowInTheGap : sending.FrameAccepted ∧ sending.TicksAhead 6801 :=
  ⟨sending_accepted, sending_ticks _ (by omega)⟩
theorem witness_FrameLeavesTheBuffer : ∃ t, { sending with ser := ⟨.shift, 0, 0, 0⟩ }.event = .tick (word 0x2000) ∧
    { sending with ser := ⟨.shift, 0, 0, 0⟩ }.ser.phase ≠ .idle ∧
    step { sending with ser := ⟨.shift, 0, 0, 0⟩ } = .next t := by
  obtain ⟨t, h, -⟩ := step_cases { sending with ser := ⟨.shift, 0, 0, 0⟩ }
  exact ⟨t, rfl, by decide, h⟩
theorem witness_OneFrameOrNone : (inited []).ser.phase = .idle ∧ (inited []).drv.initOk = true ∧ (9#8).toNat ≤ 9 ∧
    0x30 ≤ (0x30#8).toNat ∧ (0x39#8).toNat ≤ 0x39 ∧ (fresh []).drv.initOk = false := by decide
/-- One witness for each outcome: an illegal word, a command without a frame, and one with a frame. -/
theorem witness_CycleLevelRefinesTransactionLevel :
    sending.ser.phase = .idle ∧ sending.halt = false ∧ sending.event = .tick (word 0x2000) ∧
    (word 0x2000).cmdValid = true ∧ sending.TicksAhead 6801 ∧
    ∀ w, { inited [] with env := ⟨List.replicate 7000 (.tick (word w)), 0⟩ }.TicksAhead 6801 :=
  ⟨rfl, rfl, rfl, rfl, sending_ticks _ (by omega),
    fun w j hj => ticksAhead_replicate _ (word w) 7000 rfl j (by omega)⟩
theorem witness_EnvironmentEventsRefineTransactionLevel :
    { sending with env := ⟨[.reset], 0⟩ }.event = .reset ∧
    (let s := { fresh [pinA 1200 false] with btnA := ⟨false, false, true, 1000, true, true⟩
                                             btnB := ⟨false, false, true, 1001, true, true⟩ }
     s.event = .tick (pinA 1200 false) ∧ s.halt = false ∧ s.btnA.s2 = true ∧ s.btnA.s1 = false ∧ s.btnB.s2 = true ∧
       s.btnB.s1 = false) ∧
    (∀ j, j < 3 → ∃ p, (fresh (List.replicate 3 (pinA 0 false))).env.upcoming j = .tick p ∧ p.btnAN = false ∧
      p.btnBN = true ∧ p.cmdValid = false) ∧ (fresh (List.replicate 3 (pinA 0 false))).ser.phase = .idle := by
  refine ⟨rfl, by decide, ?_, rfl⟩
  intro j hj
  match j, hj with
  | 0, _ | 1, _ | 2, _ => exact ⟨pinA 0 false, rfl, rfl, rfl, rfl⟩
theorem witness_TransactionLevelReadsThePins : (fresh []).halt = false := rfl
theorem witness_DebounceTransition :
    (let s := { fresh [pinA 1200 false] with btnA := ⟨false, false, true, 1000, true, true⟩
                                             btnB := ⟨false, false, true, 1001, true, true⟩ }
     s.event = .tick (pinA 1200 false) ∧ s.halt = false ∧ s.btnA.s2 = true ∧ s.btnA.s1 = false ∧ s.btnB.s2 = true ∧
       s.btnB.s1 = false ∧ 200 ≤ ((pinA 1200 false).nowMs.toNat + 2 ^ 32 - s.btnA.ts.toNat) % 2 ^ 32 ∧
       ((pinA 1200 false).nowMs.toNat + 2 ^ 32 - s.btnB.ts.toNat) % 2 ^ 32 < 200) := by decide
theorem witness_NoEdgeNoChange : (fresh [pinA 1200 false]).event = .tick (pinA 1200 false) ∧
    ((fresh [pinA 1200 false]).btnA.s2 = false ∨ (fresh [pinA 1200 false]).btnA.s1 = true) ∧
    ((fresh [pinA 1200 false]).btnB.s2 = false ∨ (fresh [pinA 1200 false]).btnB.s1 = true) := by decide
theorem witness_InputFlops : (fresh [pinA 0 false]).event = .tick (pinA 0 false) ∧ (fresh [pinA 0 false]).halt = false ∧
    { fresh [pinA 0 false] with halt := true }.event = .tick (pinA 0 false) := ⟨rfl, rfl, rfl⟩
/-- Two states that differ in the other channel, in the driver and in the buffer. -/
theorem witness_ChannelIndependence : ∃ t t',
    step (fresh [pinA 0 false]) = .next t ∧
    step { inited [pinA 0 false] with pix := Vector.replicate 25 RED } = .next t' ∧
    (fresh [pinA 0 false]).event = (inited [pinA 0 false]).event ∧
    (fresh [pinA 0 false]).halt = (inited [pinA 0 false]).halt ∧ (fresh [pinA 0 false]).par = (inited [pinA 0 false]).par ∧
    (fresh [pinA 0 false]).btnA = (inited [pinA 0 false]).btnA ∧ (fresh [pinA 0 false]).btnB = (inited [pinA 0 false]).btnB :=
  ⟨_, _, rfl, rfl, rfl, rfl, rfl, rfl, rfl⟩
theorem witness_TwoEdges : ButtonChannel.atReset.accepts false 1000 = true ∧ (1199#32 - 1000#32).toNat < 200 ∧
    200 ≤ (1200#32 - 1000#32).toNat := by decide
theorem witness_FirstEdgeAfterReset : 200 ≤ (200#32).toNat ∧ ButtonChannel.atReset.accepts false 199 = false := by decide
theorem witness_FlagsAreMonotone :
    (let s := { fresh [pinA 1000 false] with btnA := ⟨false, false, true, 0, false, false⟩
                                             btnB := ⟨true, true, true, 5, true, true⟩ }
     (s.event = .tick (pinA 1000 false)) ∧ s.btnB.flag = true ∧
       answers (step s) (fun t => t.btnA.flag != s.btnA.flag) = true) := by decide
theorem witness_TimestampMovesByTheInterval : (fresh [pinA 0 false]).event = .tick (pinA 0 false) ∧
    ∃ t, step (fresh [pinA 0 false]) = .next t := ⟨rfl, _, rfl⟩
theorem witness_ButtonHeldAcrossReset :
    (let s := fresh [pinA 0 false, pinA 0 false]
     s.btnA = ButtonChannel.atReset ∧ s.halt = false ∧ s.env.upcoming 0 = .tick (pinA 0 false) ∧
       s.env.upcoming 1 = .tick (pinA 0 false) ∧ (pinA 0 false).btnAN = false ∧
       answers (step s) (fun u => !u.halt) = true) := by decide
theorem witness_StepKeepsTheInvariant : ∃ s t : State, s.Inv ∧ s.event = .tick (word 0x1007) ∧ step s = .next t := by
  obtain ⟨t, h, -⟩ := step_cases (fresh [word 0x1007])
  refine ⟨fresh [word 0x1007], t, ?_, rfl, h⟩
  refine ⟨?_, fun _ => ⟨rfl, rfl, rfl, ?_⟩, (fun h => by cases h), (fun h => by cases h), ⟨rfl, fun _ => rfl⟩, ⟨rfl, fun _ => rfl⟩⟩
  · intro i; left; revert i; decide
  · decide

end Sys2Proof.Tests
end

/-! PROOFS. The refinement of the transaction level by the cycle level (`00_scope.md` R8): the same effect of a command
at both levels, the run of a frame and its gap, the bits on the line, and the quiet ticks between commands. -/

namespace Sys2Proof.Machine

/-! ## A command at both levels -/

theorem State.display_with_env (d : Fin 10) (s : State) (e : Env) :
    { s with env := e }.display d = { s.display d with env := e } := by
  cases h : s.drv.initOk <;>
    simp only [State.display, h, if_true, Bool.false_eq_true, if_false, State.compose, State.startFrame, State.raise]

/-- Of the inputs a command reads `tg_avail` alone (`00_scope.md` R7): with other inputs that offer the same pools its
effect is the same, and the inputs stay. -/
theorem exec_with_env {i : Instr} {s t : State} {e : Env}
    (hp : { s with env := e }.ports.tgAvail = s.ports.tgAvail) (h : exec i s = .next t) :
    exec i { s with env := e } = .next { t with env := e } := by
  cases i with
  | init pin =>
    simp only [exec, execInit, hp] at h ⊢
    split_ifs at h ⊢ <;> cases h <;> rfl
  | wr =>
    simp only [exec, execWr] at h ⊢
    split_ifs at h ⊢ <;> cases h <;> rfl
  | dig d =>
    simp only [exec, execDig, State.display_with_env] at h ⊢
    split at h
    · cases h; rfl
    · split_ifs at h ⊢ <;> cases h <;> rfl
  | chr c =>
    simp only [exec, execChr, State.display_with_env] at h ⊢
    split at h <;> cases h <;> rfl
  | rd n =>
    simp only [exec, execRd] at h ⊢
    split_ifs at h ⊢ <;> cases h <;> rfl

/-- A command leaves the serializer alone or starts a frame, and then neither halts nor responds. -/
theorem Effect.ser_cases {i : Instr} {s t : State} (h : Effect i s t) :
    t.ser = s.ser ∨ (t.ser = ⟨.shift, 0, 0, s.ser.gapCnt⟩ ∧ t.halt = s.halt ∧ t.rsp = s.rsp) := by
  cases h <;> simp

/-- What no command changes, and what the channels' part of the tick reads (`60_exceptions.md` R188, R191). -/
theorem Effect.frame {i : Instr} {s t : State} (h : Effect i s t) :
    t.btnA = s.btnA ∧ t.btnB = s.btnB ∧ t.par = s.par ∧ t.ports = s.ports := by
  cases h <;> simp

/-- The cycle level's tick of an accepted command. -/
theorem step_run {s t : State} {p : Ports} {i : Instr} (he : s.event = .tick p) (hh : s.halt = false)
    (hs : s.ser.phase = .idle) (hv : p.cmdValid = true) (hd : decode p.cmd = .ok i)
    (ht : exec i s.clearResponse = .next t) : step s = .next t.finishTick := by
  simp [step, State.tickKind_run he hh hs hv hd, State.beginTick_of_idle hs, ht]

/-- The cycle level's tick of an accepted illegal word. -/
theorem step_illegal {s : State} {p : Ports} {e : Illegal} (he : s.event = .tick p) (hh : s.halt = false)
    (hs : s.ser.phase = .idle) (hv : p.cmdValid = true) (hd : decode p.cmd = .error e) :
    step s = .next (s.clearResponse.raise .illegalCommand).finishTick := by
  simp [step, State.tickKind_illegal he hh hs hv hd, State.beginTick_of_idle hs]

/-- The transaction level's change of the same command, by the effect it has on the tick. -/
theorem txStep_command_of_exec {s t : State} {p : Ports} {i : Instr} (he : s.event = .tick p) (hh : s.halt = false)
    (hd : decode p.cmd = .ok i) (ht : exec i s.clearResponse = .next t) :
    txStep (.command p.cmd p.tgAvail) s = .next ({ t.settle with env := s.env }, lineEvents s t) := by
  have hpools : (s.clearResponse.withPools p.tgAvail).ports.tgAvail = s.clearResponse.ports.tgAvail := by
    simp [State.ports_of_tick he]
  have hexec := exec_with_env hpools ht
  simp only [txStep, hh, hd, State.withPools] at hexec ⊢
  rw [hexec]
  rfl

/-! ## The serializer from the start of a frame to the end of its gap (`40_led_chain_driver.md` R89, R90) -/

theorem Serializer.iterate_step_shift (g : Fin 800) (k : Nat) (hk : k < 6000) :
    Serializer.step^[k] ⟨.shift, 0, 0, g⟩ = ⟨.shift, ⟨k / 10, by omega⟩, ⟨k % 10, by omega⟩, g⟩ := by
  induction k with
  | zero => rfl
  | succ k ih =>
    rw [Function.iterate_succ_apply', ih (by omega)]
    by_cases ht : k % 10 < 9
    · rw [Serializer.step_shift_tick rfl (by simp only; omega)]
      simp only [Serializer.mk.injEq, Fin.mk.injEq, true_and, and_true]
      omega
    · rw [Serializer.step_shift_bit rfl (by simp only; omega) (by simp only; omega)]
      simp only [Serializer.mk.injEq, Fin.ext_iff, Fin.coe_ofNat_eq_mod, true_and, and_true]
      omega

theorem Serializer.iterate_step_gap (g : Fin 800) (k : Nat) (hk : k < 800) :
    Serializer.step^[6000 + k] ⟨.shift, 0, 0, g⟩ = ⟨.gap, 599, 9, ⟨k, hk⟩⟩ := by
  induction k with
  | zero =>
    rw [show 6000 + 0 = Nat.succ 5999 from rfl, Function.iterate_succ_apply', iterate_step_shift g 5999 (by omega)]
    exact Serializer.step_shift_end rfl rfl rfl
  | succ k ih =>
    rw [← Nat.add_assoc, Function.iterate_succ_apply', ih (by omega), Serializer.step_gap_count rfl]

theorem Serializer.iterate_step_done (g : Fin 800) :
    Serializer.step^[6800] ⟨.shift, 0, 0, g⟩ = ⟨.idle, 599, 9, 799⟩ := by
  rw [show 6800 = Nat.succ (6000 + 799) from rfl, Function.iterate_succ_apply', iterate_step_gap g 799 (by omega)]
  exact Serializer.step_gap_end rfl rfl

theorem Serializer.iterate_step_not_idle (g : Fin 800) (k : Nat) (hk : k < 6800) :
    (Serializer.step^[k] ⟨.shift, 0, 0, g⟩).phase ≠ .idle := by
  by_cases h : k < 6000
  · simp [iterate_step_shift g k h]
  · obtain ⟨j, rfl⟩ := Nat.exists_eq_add_of_le (Nat.le_of_not_lt h)
    simp [iterate_step_gap g j (by omega)]

/-! ## A run with the serializer busy (R48, R86, R96) -/

/-- What `k` ticks without an accepted command make of the state, the button channels and the inputs apart: the
serializer steps on its own, and everything else stays. -/
structure State.RunsOn (k : Nat) (s u : State) : Prop where
  pix  : u.pix = s.pix
  err  : u.err = s.err
  drv  : u.drv = s.drv
  halt : u.halt = s.halt
  ser  : u.ser = Serializer.step^[k] s.ser
  rsp  : u.rsp = ⟨decide (k = 0) && s.rsp.valid, s.rsp.data⟩

theorem State.RunsOn.refl (s : State) : s.RunsOn 0 s := ⟨rfl, rfl, rfl, rfl, rfl, rfl⟩

theorem State.RunsOn.finishTick_beginTick {k : Nat} {s u : State} (h : s.RunsOn k u) :
    s.RunsOn (k + 1) u.beginTick.finishTick where
  pix := by simp [h.pix]
  err := by simp [h.err]
  drv := by simp [h.drv]
  halt := by simp [h.halt]
  ser := by simp [h.ser, Function.iterate_succ_apply']
  rsp := by simp [h.rsp]

theorem after_busy {s : State} (k : Nat) (hh : s.halt = false) (ht : s.TicksAhead k)
    (hb : ∀ j, j < k → (Serializer.step^[j] s.ser).phase ≠ .idle) : ∃ u, after k s = .next u ∧ s.RunsOn k u := by
  induction k with
  | zero => exact ⟨s, rfl, .refl s⟩
  | succ k ih =>
    obtain ⟨u, hu, hr⟩ := ih (fun j hj => ht j (by omega)) (fun j hj => hb j (by omega))
    obtain ⟨p, hp⟩ := ht k (by omega)
    have he : u.event = .tick p := by rw [State.event, after_upcoming hu, Nat.add_zero, hp]
    have hbusy : u.ser.phase ≠ .idle := hr.ser ▸ hb k (by omega)
    exact ⟨_, by rw [after_succ hu, step_busy he (hr.halt.trans hh) hbusy], hr.finishTick_beginTick⟩

/-- The run from the tick that starts a frame up to the end of its gap. -/
theorem after_frame {s v : State} {g : Fin 800} (hv : step s = .next v) (hser : v.ser = ⟨.shift, 0, 0, g⟩)
    (hh : v.halt = false) {k : Nat} (hk : k ≤ 6800) (ht : s.TicksAhead (1 + k)) :
    ∃ u, after (1 + k) s = .next u ∧ v.RunsOn k u := by
  rw [Nat.add_comm, after_cons hv]
  refine after_busy k hh (fun j hj => ?_) (fun j hj => ?_)
  · rw [step_env hv, Env.upcoming_advance]
    exact ht (j + 1) (by omega)
  · rw [hser]
    exact Serializer.iterate_step_not_idle g j (by omega)

/-! ## The bits on the line (`20_memory.md` R44, R45, `40_led_chain_driver.md` R88) -/

/-- The bytes of a pixel in wire order. -/
def pixelBytes (w : Pixel) : List Byte := [greenOf w, redOf w, blueOf w]

theorem flatMap_pixelBytes_getElem? (l : List Pixel) (i j : Nat) (hj : j < 3) :
    (l.flatMap pixelBytes)[3 * i + j]? = l[i]?.bind fun w => (pixelBytes w)[j]? := by
  induction l generalizing i with
  | nil => simp
  | cons w l ih =>
    rw [List.flatMap_cons]
    cases i with
    | zero => simp [List.getElem?_append_left (show j < (pixelBytes w).length from hj)]
    | succ i =>
      have hlen : (pixelBytes w).length = 3 := rfl
      rw [List.getElem?_append_right (by omega), hlen, show 3 * (i + 1) + j - 3 = 3 * i + j by omega, ih]
      rfl

/-- Byte `3 * i + j` of a frame is byte `j` of pixel `i`. -/
theorem frameBytes_getElem? (pix : Vector Pixel 25) (i j : Nat) (hi : i < 25) (hj : j < 3) :
    (frameBytes pix)[3 * i + j]? = (pixelBytes pix[i])[j]? := by
  have h := flatMap_pixelBytes_getElem? pix.toList i j hj
  rwa [Vector.getElem?_toList, Vector.getElem?_eq_getElem hi] at h

/-- Bit `m` of a pixel in wire order: bit `7 - m % 8` of its byte `m / 8` is bit `23 - m`. -/
theorem pixelBytes_bit (w : Pixel) (m : Nat) (hm : m < 24) :
    ((pixelBytes w)[m / 8]?.getD 0).getLsbD (7 - m % 8) = w.getLsbD (23 - m) := by
  obtain h | h | h : m / 8 = 0 ∨ m / 8 = 1 ∨ m / 8 = 2 := by omega
  all_goals
    simp only [h, pixelBytes, List.getElem?_cons_zero, List.getElem?_cons_succ, Option.getD_some, greenOf, redOf, blueOf,
      BitVec.getLsbD_extractLsb', show 7 - m % 8 < 8 by omega, decide_true, Bool.true_and]
    congr 1
    omega

/-- The two forms of a frame's bit in R88 agree. -/
theorem frameBit_eq_wireBit (pix : Vector Pixel 25) (p : Fin 600) :
    frameBit pix p = wireBit (frameBytes pix) p := by
  have hp := p.isLt
  have hbyte := frameBytes_getElem? pix (p / 24) (p % 24 / 8) (by omega) (by omega)
  rw [show 3 * (p.val / 24) + p.val % 24 / 8 = p.val / 8 by omega] at hbyte
  have hbit := pixelBytes_bit (pix[p.val / 24]) (p % 24) (by omega)
  rw [show p.val % 24 % 8 = p.val % 8 by omega] at hbit
  rw [wireBit, List.getD_eq_getElem?_getD, hbyte, hbit]
  rfl

/-- Three ticks into a bit period the line holds the bit: 3 is `T0H`, less than `T1H` (log 7). -/
theorem State.dout_third_tick {s : State} (hp : s.ser.phase = .shift) (hh : s.halt = false)
    (ht : s.ser.tick.val = 3) : s.dout = wireBit (frameBytes s.pix) s.ser.pos := by
  rw [← frameBit_eq_wireBit]
  simp only [State.dout, hp, hh, ht]
  cases frameBit s.pix s.ser.pos <;> rfl

/-! ## Commands refine -/

/-- Settles O46: both levels run the same `exec`; without a frame the accepting tick is the whole change, and with one
the busy run of 6800 ticks keeps its effect and puts the emitted bytes on the line. -/
theorem cycleLevelRefinesTransactionLevel : Obligations.CycleLevelRefinesTransactionLevel := by
  intro s p hs hh he hv hticks
  cases hd : decode p.cmd with
  | error e =>
    have hstep := step_illegal he hh hs hv hd
    exact ⟨s.clearResponse.raise .illegalCommand, [], by simp [txStep, hh, hd],
      .inl ⟨rfl, _, (after_one s).trans hstep, by simp⟩⟩
  | ok i =>
    obtain ⟨t, ht, heff⟩ := exec_cases i s.clearResponse
    have hstep := step_run he hh hs hv hd ht
    refine ⟨_, _, txStep_command_of_exec he hh hd ht, ?_⟩
    obtain hser | ⟨hser, hhalt, hrsp⟩ := heff.ser_cases
    · have hidle : t.ser.phase = .idle := by rw [hser]; exact hs
      refine .inl ⟨by simp [lineEvents, hidle], _, (after_one s).trans hstep, ?_⟩
      simp [Serializer.settle_of_idle hidle]
    · have hrun {k : Nat} (hk : k ≤ 6800) := after_frame hstep hser (hhalt.trans hh) hk fun j hj => hticks j (by omega)
      refine .inr ⟨frameBytes t.pix, by simp [lineEvents, hs, hser], ?_, fun b hb => ?_⟩
      · obtain ⟨u, hu, hr⟩ := hrun (Nat.le_refl 6800)
        refine ⟨u, hu, hr.pix, hr.err, hr.drv, hr.halt, ?_, by simp [hr.rsp, hrsp]⟩
        rw [hr.ser, State.finishTick_ser, hser, Serializer.iterate_step_done]
        simp [Serializer.settle, hser]
      · obtain ⟨v, hv, hr⟩ := hrun (k := 10 * b + 3) (by omega)
        have hvser : v.ser = _ :=
          (hr.ser.trans (congrArg _ hser)).trans (Serializer.iterate_step_shift _ _ (by omega))
        refine ⟨v, hv, ?_⟩
        rw [State.dout_third_tick (by rw [hvser]) (hr.halt.trans (hhalt.trans hh)) (by rw [hvser]; simp only; omega),
          hr.pix, hvser]
        simp only [State.finishTick_pix, show (10 * b + 3) / 10 = b by omega]

/-! ## Ticks without a command -/

/-- A tick of a block that runs: each channel takes its own step, whatever else happens (`42_button_core.md` R138). -/
theorem step_buttons {s : State} {p : Ports} (he : s.event = .tick p) (hh : s.halt = false) :
    ∃ u, step s = .next u ∧ u.btnA = s.btnA.step s.par.tsNeverAtReset p.nowMs p.btnAN ∧
      u.btnB = s.btnB.step s.par.tsNeverAtReset p.nowMs p.btnBN := by
  obtain ⟨u, hu, hc⟩ := step_cases s
  refine ⟨u, hu, ?_⟩
  cases hc with
  | reset hr => simp [he] at hr
  | frozen _ _ hf => simp [hh] at hf
  | quiet => simp [State.ports_of_tick he]
  | illegal => simp [State.ports_of_tick he]
  | run _ _ t _ _ _ _ _ heff =>
    obtain ⟨ha, hb, hpar, hports⟩ := heff.frame
    simp [ha, hb, hpar, hports, State.ports_of_tick he]

theorem step_unoffered {s : State} {p : Ports} (he : s.event = .tick p) (hh : s.halt = false)
    (hv : p.cmdValid = false) : step s = .next s.beginTick.finishTick := by
  simp [step, State.tickKind_quiet he hh (.inr hv)]

/-- Three ticks that offer no word, in a block that runs: the flops hold the pins of the last three ticks, the oldest
in `S2_X` (`10_state.md` R24). -/
theorem after_three_unoffered {s : State} {p q r : Ports} (hh : s.halt = false)
    (hp : s.env.upcoming 0 = .tick p) (hq : s.env.upcoming 1 = .tick q) (hr : s.env.upcoming 2 = .tick r)
    (vp : p.cmdValid = false) (vq : q.cmdValid = false) (vr : r.cmdValid = false) :
    ∃ u, after 3 s = .next u ∧ s.RunsOn 3 u ∧
      u.btnA.s0 = r.btnAN ∧ u.btnA.s1 = q.btnAN ∧ u.btnA.s2 = p.btnAN ∧
      u.btnB.s0 = r.btnBN ∧ u.btnB.s1 = q.btnBN ∧ u.btnB.s2 = p.btnBN := by
  have e1 : s.beginTick.finishTick.event = .tick q := by
    rw [State.event, State.finishTick_env, Env.upcoming_advance]; exact hq
  have e2 : s.beginTick.finishTick.beginTick.finishTick.event = .tick r := by
    simp only [State.event, State.finishTick_env, State.beginTick_env, Env.upcoming_advance]; exact hr
  have h1 := step_unoffered hp hh vp
  have h2 := step_unoffered e1 hh vq
  have h3 := step_unoffered e2 hh vr
  refine ⟨_, ?_, (State.RunsOn.refl s).finishTick_beginTick.finishTick_beginTick.finishTick_beginTick, ?_⟩
  · rw [after_cons h1, after_cons h2, after_one, h3]
  · simp [State.ports_of_tick hp, State.ports_of_tick e1, State.ports_of_tick e2]

/-- Ticks in the halted state change nothing but the inputs to come (`60_exceptions.md` R184). -/
theorem after_halted {s : State} (k : Nat) (hh : s.halt = true) (ht : s.TicksAhead k) :
    ∃ e, after k s = .next { s with env := e } := by
  induction k with
  | zero => exact ⟨s.env, rfl⟩
  | succ k ih =>
    obtain ⟨e, hu⟩ := ih fun j hj => ht j (by omega)
    obtain ⟨p, hp⟩ := ht k (by omega)
    have he : ({ s with env := e } : State).event = .tick p := (after_upcoming hu 0).trans hp
    exact ⟨e.advance, by rw [after_succ hu]; simp [step, State.tickKind_frozen he hh, State.advance]⟩

/-! ## Resets, edges and `TICK` refine -/

/-- On a falling edge a channel's tick is the transition and the flops' shift (R132, R134). -/
theorem ButtonChannel.step_of_falling {never : Bool} {now : Word32} {pin : Bool} {c : ButtonChannel}
    (h2 : c.s2 = true) (h1 : c.s1 = false) : c.step never now pin = (c.debounce never now).sample pin := by
  simp [ButtonChannel.step, ButtonChannel.falling, h2, h1]

/-- The transaction level's `TICK` on the elements it shares with three ticks that hold the pins. -/
theorem three_ticks_refine_tick {s : State} {a b : Bool}
    (h : ∀ j, j < 3 → ∃ p, s.env.upcoming j = .tick p ∧ p.btnAN = a ∧ p.btnBN = b ∧ p.cmdValid = false) :
    ∃ t u, txStep (.tick a b) s = .next (t, []) ∧ after 3 s = .next u ∧
      u.btnA.s0 = t.btnA.s0 ∧ u.btnA.s1 = t.btnA.s1 ∧ u.btnA.s2 = t.btnA.s2 ∧
      u.btnB.s0 = t.btnB.s0 ∧ u.btnB.s1 = t.btnB.s1 ∧ u.btnB.s2 = t.btnB.s2 ∧
      u.pix = t.pix ∧ u.err = t.err ∧ u.drv = t.drv ∧ u.halt = t.halt ∧ u.rsp = t.rsp ∧
      (s.ser.phase = .idle → u.ser = t.ser) := by
  cases hh : s.halt with
  | true =>
    obtain ⟨e, hu⟩ := after_halted 3 hh fun j hj => (h j hj).imp fun _ hp => hp.1
    exact ⟨s, _, by simp [txStep, hh], hu, by simp⟩
  | false =>
    obtain ⟨p, hp, pa, pb, pv⟩ := h 0 (by omega)
    obtain ⟨q, hq, qa, qb, qv⟩ := h 1 (by omega)
    obtain ⟨r, hr, ra, rb, rv⟩ := h 2 (by omega)
    obtain ⟨u, hu, hrun, hflops⟩ := after_three_unoffered hh hp hq hr pv qv rv
    rw [pa, pb, qa, qb, ra, rb] at hflops
    obtain ⟨a0, a1, a2, b0, b1, b2⟩ := hflops
    refine ⟨(s.clearResponse.samplePins a b).settle, u, by simp [txStep, hh], hu, a0, a1, a2, b0, b1, b2,
      hrun.pix, hrun.err, hrun.drv, hrun.halt, hrun.rsp, fun hs => ?_⟩
    have hfix : s.ser.step = s.ser := Serializer.step_idle hs
    rw [hrun.ser, Function.iterate_fixed hfix]
    exact (Serializer.settle_of_idle hs).symm

/-- Between the changes of a run at the transaction level the serializer is idle. -/
theorem txStep_idle (e : TxEvent) {s : State} (hs : s.ser.phase = .idle) :
    ∃ t evs, txStep e s = .next (t, evs) ∧ t.ser.phase = .idle := by
  cases e with
  | reset => exact ⟨_, _, rfl, rfl⟩
  | edge ch now => exact ⟨_, _, rfl, by split <;> simp [hs]⟩
  | tick a b => exact ⟨_, _, rfl, by split <;> simp [hs]⟩
  | command w tg =>
    cases hh : s.halt with
    | true => exact ⟨s, [], by simp [txStep, hh], hs⟩
    | false =>
      cases hd : decode w with
      | error e => exact ⟨s.clearResponse.raise .illegalCommand, [], by simp [txStep, hh, hd], by simp [hs]⟩
      | ok i =>
        obtain ⟨t, -, h⟩ := txStep_command tg hh hd
        exact ⟨_, _, h, by simp⟩

/-- Settles O59: a reset and a channel's edge are one step of either level, `TICK` is three ticks with the pins held. -/
theorem environmentEventsRefineTransactionLevel : Obligations.EnvironmentEventsRefineTransactionLevel := by
  refine ⟨fun s he => ?_, fun s p he hh h2 h1 => ?_, fun s p he hh h2 h1 => ?_,
    fun s a b h => three_ticks_refine_tick h, fun e s hs => txStep_idle e hs⟩
  · exact ⟨_, s.applyReset, rfl, by simp [step, State.tickKind_reset he], rfl⟩
  · obtain ⟨u, hu, ha, -⟩ := step_buttons he hh
    refine ⟨s.edge .a p.nowMs, u, by simp [txStep, hh], hu, ?_⟩
    rw [ha, ButtonChannel.step_of_falling h2 h1]
    exact ⟨rfl, rfl, rfl⟩
  · obtain ⟨u, hu, -, hb⟩ := step_buttons he hh
    refine ⟨s.edge .b p.nowMs, u, by simp [txStep, hh], hu, ?_⟩
    rw [hb, ButtonChannel.step_of_falling h2 h1]
    exact ⟨rfl, rfl, rfl⟩

end Sys2Proof.Machine

/-! PROOFS. The state of the block (`10_state.md`): the values after reset, what a tick writes and what it keeps, and
the invariant that every step keeps (R12). -/

namespace Sys2Proof.Machine

/-! ## What a tick does -/

/-- The end of a tick with its port levels named: both channels take their step and the event is past. -/
theorem State.finishTick_of_tick {s : State} {p : Ports} (he : s.event = .tick p) :
    s.finishTick = { s with
      btnA := s.btnA.step s.par.tsNeverAtReset p.nowMs p.btnAN
      btnB := s.btnB.step s.par.tsNeverAtReset p.nowMs p.btnBN
      env := s.env.advance } := by
  rw [← State.ports_of_tick he]
  rfl

theorem Effect.env_eq {i : Instr} {s t : State} (h : Effect i s t) : t.env = s.env := by
  cases h <;> simp

theorem step_frozen {s : State} {p : Ports} (he : s.event = .tick p) (hh : s.halt = true) :
    step s = .next s.advance := by
  simp [step, State.tickKind_frozen he hh]

/-- A tick either runs the accepted command's effect, or writes neither the buffer nor the driver. -/
theorem StepCase.run_or_keeps {s t : State} {p : Ports} (hc : StepCase s t) (he : s.event = .tick p) :
    (∃ i u, s.tickKind = .run i ∧ Effect i s.clearResponse u ∧ t = u.finishTick) ∨
    (t.pix = s.pix ∧ t.drv = s.drv) := by
  cases hc with
  | reset hr => simp [he] at hr
  | run q i u hq hh hs hv hd heff => exact .inl ⟨i, u, State.tickKind_run hq hh hs hv hd, heff, rfl⟩
  | frozen | quiet | illegal => exact .inr (by simp)

/-! ## Reset -/

/-- Settles O7: the fields of `State.reset` one by one; with no command before it the first tick's outputs are those of
an idle block. -/
theorem resetValues : Obligations.ResetValues := by
  refine ⟨fun i => by simp [State.reset], rfl, rfl, rfl, rfl, rfl, rfl, rfl, rfl, rfl, rfl, rfl, rfl, rfl, rfl, rfl,
    rfl, rfl, rfl, rfl, rfl, rfl, rfl, rfl, fun p e he => ?_⟩
  have hev : ({ State.reset with env := e } : State).event = .tick p := he
  simp only [State.outputs, hev, State.cmdReady_of_tick hev]
  rfl

/-! ## The accepted command and the tick without one -/

/-- Settles O24: `step_run` with the frame of the command's effect, which leaves the channels, the parameters and the
inputs as the tick found them. -/
theorem stepRunsTheAcceptedCommand : Obligations.StepRunsTheAcceptedCommand := by
  intro s p i he hh hs hv hd
  have hrun := State.tickKind_run he hh hs hv hd
  have hbegin := State.beginTick_of_idle hs
  refine ⟨fun t ht => ?_, fun f hf => ?_, fun r hr => ?_⟩
  · obtain ⟨u, hu, heff⟩ := exec_cases i s.clearResponse
    obtain rfl : u = t := Host.Outcome.next.inj (hu.symm.trans ht)
    obtain ⟨ha, hb, hpar, -⟩ := heff.frame
    have hev : u.event = .tick p := by rw [State.event, heff.env_eq]; exact he
    rw [step_run he hh hs hv hd hu, State.finishTick_of_tick hev, ha, hb, hpar, heff.env_eq]
    rfl
  · have hexec : exec i s.beginTick = .fault f := hbegin ▸ hf
    simp only [step, hrun, hexec]
  · have hexec : exec i s.beginTick = .refused r := hbegin ▸ hr
    simp only [step, hrun, hexec]

/-- Settles O27: such a tick is quiet, so no word is decoded. -/
theorem wordOfferedWhileBusyHasNoEffect : Obligations.WordOfferedWhileBusyHasNoEffect := by
  intro s p he hh hn
  have hquiet : step s = .next s.beginTick.finishTick := by simp only [step, State.tickKind_quiet he hh hn]
  have hev : s.beginTick.event = .tick p := he
  rw [hquiet, State.finishTick_of_tick hev]
  rfl

/-! ## What a step keeps -/

/-- Settles O36: no shared operation writes the parameters, `applyReset` included. -/
theorem parametersNeverChange : Obligations.ParametersNeverChange := by
  intro s t h
  cases StepCase.of_step h with
  | run p i u _ _ _ _ _ heff =>
    obtain ⟨-, -, hpar, -⟩ := heff.frame
    exact hpar
  | reset | frozen | quiet | illegal => simp

/-- A command writes the buffer only as a display of a legal digit after `INIT` (`10_state.md` R11). -/
theorem Effect.pix_changed {i : Instr} {s t : State} (h : Effect i s t) (hne : t.pix ≠ s.pix) :
    s.drv.initOk = true ∧
    ∃ k, (∃ d, i = .dig d ∧ digitOf d = some k) ∨ (∃ c, i = .chr c ∧ asciiDigitOf c = some k) := by
  cases h with
  | display k hk hok => exact ⟨hok, k, hk⟩
  | _ => simp at hne

/-- Settles O32: of the cases of a tick only a command's effect writes the buffer, and that effect is a display. -/
theorem onlyDigitCommandsChangePixels : Obligations.OnlyDigitCommandsChangePixels := by
  intro s t p he h hne
  obtain ⟨i, u, hrun, heff, rfl⟩ | ⟨hpix, -⟩ := (StepCase.of_step h).run_or_keeps he
  · obtain ⟨hok, k, ⟨d, rfl, hd⟩ | ⟨c, rfl, hc⟩⟩ := heff.pix_changed hne
    · have := digitOf_some hd
      exact ⟨hok, .inl ⟨d, hrun, by omega⟩⟩
    · have := asciiDigitOf_some hc
      exact ⟨hok, .inr ⟨c, hrun, by omega, by omega⟩⟩
  · exact absurd hpix hne

/-- A command writes the driver only as the claim of a free pool, before a successful `INIT` (`10_state.md` R18 to
R20). -/
theorem Effect.drv_changed {i : Instr} {s t : State} (h : Effect i s t) (hne : t.drv ≠ s.drv) :
    ∃ pin sel, i = .init pin ∧ s.drv.initOk = false ∧ s.ports.tgAvail ≠ 0 ∧ t.drv = ⟨true, sel, pin⟩ := by
  cases h with
  | claim pin sel hi hok h0 h1 =>
    refine ⟨pin, sel, hi, hok, fun hz => ?_, rfl⟩
    cases sel <;> simp [hz] at h0 h1
  | _ => simp at hne

/-- Settles O33: of the cases of a tick only a command's effect writes the driver, and that effect is a claim. -/
theorem onlyTheFirstInitChangesTheDriver : Obligations.OnlyTheFirstInitChangesTheDriver := by
  intro s t p he h hne
  obtain ⟨i, u, hrun, heff, rfl⟩ | ⟨-, hdrv⟩ := (StepCase.of_step h).run_or_keeps he
  · obtain ⟨pin, sel, rfl, hok, htg, hdrv⟩ := heff.drv_changed hne
    rw [← State.ports_of_tick he]
    exact ⟨pin, sel, hrun, hok, htg, hdrv⟩
  · exact absurd hdrv hne

/-! ## The response register (`10_state.md` R25) -/

/-- A command writes the response exactly if it is `RD`. -/
theorem Effect.rsp_cases {i : Instr} {s t : State} (h : Effect i s t) :
    (∃ n, i = .rd n ∧ t.rsp = ⟨true, regRead s n⟩) ∨ ((∀ n, i ≠ .rd n) ∧ t.rsp = s.rsp) := by
  cases h with
  | sequence _ hn => exact .inr ⟨hn, by simp⟩
  | display k hk =>
    obtain ⟨d, rfl, -⟩ | ⟨c, rfl, -⟩ := hk <;> exact .inr ⟨nofun, by simp⟩
  | read n hi => exact .inl ⟨n, hi, rfl⟩
  | readReserved n hi => exact .inl ⟨n, hi, by simp⟩
  | _ => subst i; exact .inr ⟨nofun, by simp⟩

/-- No register's value depends on the response register. -/
theorem regRead_clearResponse (s : State) (n : Byte) : regRead s.clearResponse n = regRead s n := rfl

/-- Settles O23: by the cases of a tick; `RD` reads after `clearResponse`, which no register sees. -/
theorem responseRegister : Obligations.ResponseRegister := by
  refine ⟨fun s p he => ?_, rfl⟩
  obtain ⟨t, ht, hc⟩ := step_cases s
  refine ⟨t, ht, ?_⟩
  cases hc with
  | reset hr => simp [he] at hr
  | frozen _ _ hh => simp [hh]
  | quiet q hq hh ha =>
    have hkind : s.tickKind = .quiet := by simp [State.tickKind, hq, hh, ha]
    simp [hh, hkind]
  | illegal q e hq hh hs hv hd => simp [hh, State.tickKind_illegal hq hh hs hv hd]
  | run q i u hq hh hs hv hd heff =>
    rw [State.tickKind_run hq hh hs hv hd]
    refine ⟨by simp [hh], fun _ n hn => ?_, fun _ hn => ?_⟩
    · cases hn
      obtain ⟨m, hm, hrsp⟩ | ⟨hne, -⟩ := heff.rsp_cases
      · cases hm; exact hrsp
      · exact absurd rfl (hne n)
    · obtain ⟨m, rfl, -⟩ | ⟨-, hrsp⟩ := heff.rsp_cases
      · exact absurd rfl (hn m)
      · exact hrsp

/-! ## The button channels (`10_state.md` R15, R24) -/

/-- A tick freezes both channels of a halted block and steps them in one that runs. -/
theorem step_buttons_cases {s : State} {p : Ports} (he : s.event = .tick p) :
    ∃ t, step s = .next t ∧
      ((s.halt = true ∧ t.btnA = s.btnA ∧ t.btnB = s.btnB) ∨
       (s.halt = false ∧ t.btnA = s.btnA.step s.par.tsNeverAtReset p.nowMs p.btnAN ∧
          t.btnB = s.btnB.step s.par.tsNeverAtReset p.nowMs p.btnBN)) := by
  cases hh : s.halt with
  | true => exact ⟨_, step_frozen he hh, .inl ⟨rfl, rfl, rfl⟩⟩
  | false =>
    obtain ⟨t, ht, hab⟩ := step_buttons he hh
    exact ⟨t, ht, .inr ⟨rfl, hab⟩⟩

/-- Settles O49: the flops of a channel's step, or a frozen channel. -/
theorem inputFlops : Obligations.InputFlops := by
  refine ⟨fun s p he => ?_, fun c => ⟨rfl, by simp [ButtonChannel.falling]⟩, rfl, rfl, rfl⟩
  obtain ⟨t, ht, ⟨hh, hab⟩ | ⟨hh, ha, hb⟩⟩ := step_buttons_cases he
  · exact ⟨t, ht, by simp [hh], fun _ => hab⟩
  · exact ⟨t, ht, by simp [ha, hb], by simp [hh]⟩

theorem ButtonChannel.step_keeps_flag (never : Bool) (now : Word32) (pin : Bool) {c : ButtonChannel}
    (h : c.flag = true) : (c.step never now pin).flag = true := by
  obtain ⟨-, -, hs⟩ | ⟨-, hs⟩ := c.step_cases never now pin <;> simp [hs, h]

theorem ButtonChannel.accepted_of_flag_changed {never : Bool} {now : Word32} {pin : Bool} {c : ButtonChannel}
    (h : (c.step never now pin).flag ≠ c.flag) : c.falling = true ∧ c.accepts never now = true := by
  obtain ⟨hf, ha, -⟩ | ⟨-, hs⟩ := c.step_cases never now pin
  · exact ⟨hf, ha⟩
  · simp [hs] at h

/-- Settles O53: each channel by itself, frozen or stepped. -/
theorem flagsAreMonotone : Obligations.FlagsAreMonotone := by
  intro s t p he h
  obtain ⟨u, hu, hcases⟩ := step_buttons_cases he
  obtain rfl : t = u := Host.Outcome.next.inj (h.symm.trans hu)
  obtain ⟨-, ha, hb⟩ | ⟨-, ha, hb⟩ := hcases
  · simp [ha, hb]
  · rw [ha, hb]
    exact ⟨ButtonChannel.step_keeps_flag _ _ _, ButtonChannel.step_keeps_flag _ _ _,
      ButtonChannel.accepted_of_flag_changed, ButtonChannel.accepted_of_flag_changed⟩

/-! ## The invariant (`10_state.md` R12) -/

theorem ButtonChannel.Inv.atReset : ButtonChannel.atReset.Inv := ⟨rfl, fun _ => rfl⟩

theorem ButtonChannel.Inv.step (never : Bool) (now : Word32) (pin : Bool) {c : ButtonChannel} (h : c.Inv) :
    (c.step never now pin).Inv := by
  obtain ⟨-, -, hs⟩ | ⟨-, hs⟩ := c.step_cases never now pin <;> rw [hs]
  · exact ⟨rfl, nofun⟩
  · exact ⟨h.flag_eq_seen, h.ts_zero⟩

theorem reset_pix (i : Fin 25) : State.reset.pix[i] = BLACK := by
  simp [State.reset, BLACK]

/-- Settles O57: every clause at the values of `State.reset`. -/
theorem resetMeetsTheInvariant : Obligations.ResetMeetsTheInvariant where
  pix i := .inl (reset_pix i)
  uninit _ := ⟨rfl, rfl, rfl, reset_pix⟩
  halted := nofun
  response := nofun
  btnA := .atReset
  btnB := .atReset

/-- The invariant reads neither the parameters nor the inputs, so a reset from any state meets it. -/
theorem State.Inv.applyReset (s : State) : s.applyReset.Inv where
  __ := resetMeetsTheInvariant

theorem State.Inv.advance {s : State} (h : s.Inv) : s.advance.Inv where
  __ := h

theorem State.Inv.finishTick {s : State} (h : s.Inv) : s.finishTick.Inv where
  __ := h
  btnA := h.btnA.step _ _ _
  btnB := h.btnB.step _ _ _

theorem State.Inv.clearResponse {s : State} (h : s.Inv) : s.clearResponse.Inv where
  __ := h
  halted hh := ⟨(h.halted hh).1, rfl⟩
  response := nofun

/-- SER leaves `IDLE` by no step of its own, and no response is present at the end of `beginTick`. -/
theorem State.Inv.beginTick {s : State} (h : s.Inv) : s.beginTick.Inv where
  __ := h.clearResponse
  uninit hok := by
    obtain ⟨hidle, hrest⟩ := h.uninit hok
    exact ⟨by simp [Serializer.step_idle hidle, hidle], hrest⟩
  response := nofun

/-- The invariant reads no error flag, so every exception but the fatal one keeps it. -/
theorem State.Inv.raise {e : Exn} {s : State} (h : s.Inv) (he : e ≠ .fatalNoTimingGenerator) : (s.raise e).Inv := by
  cases e with
  | fatalNoTimingGenerator => exact absurd rfl he
  | rangeError | sequenceError | illegalCommand => exact { __ := h }

/-- A response written with the port ready (`43_register_read.md` R150). -/
theorem State.Inv.respond {s : State} (v : Word32) (h : s.Inv) (hh : s.halt = false) (hs : s.ser.phase = .idle) :
    (s.respond v).Inv where
  __ := h
  halted hv := by simp [hh] at hv
  response _ := hs

/-- A frame starts only after `INIT` and with no response present. -/
theorem State.Inv.startFrame {s : State} (h : s.Inv) (hok : s.drv.initOk = true) (hr : s.rsp.valid = false) :
    s.startFrame.Inv where
  __ := h
  uninit hn := by simp [hok] at hn
  response hv := by simp [hr] at hv

/-- After `INIT` the buffer may hold any picture in the two colours. -/
theorem State.Inv.with_pix {s : State} {pix : Vector Pixel 25} (h : s.Inv) (hok : s.drv.initOk = true)
    (hpix : ∀ i : Fin 25, pix[i] = BLACK ∨ pix[i] = RED) : ({ s with pix := pix } : State).Inv where
  __ := h
  pix := hpix
  uninit hn := by simp [hok] at hn

/-- The compose step writes `RED` and `BLACK` only (`41_matrix_renderer.md` R113). -/
theorem State.Inv.compose {s : State} (k : Fin 10) (h : s.Inv) (hok : s.drv.initOk = true) : (s.compose k).Inv :=
  h.with_pix hok fun i => by
    rw [Fin.getElem_fin, Vector.getElem_ofFn]
    exact cellColour_cases s.par.glyph k i

/-- The effect of a command on a tick that accepts it keeps the invariant: the block is not halted, the response is
cleared and the serializer is idle. -/
theorem State.Inv.effect {i : Instr} {s t : State} (h : s.Inv) (hh : s.halt = false) (hr : s.rsp.valid = false)
    (hs : s.ser.phase = .idle) (heff : Effect i s t) : t.Inv := by
  cases heff with
  | sequence => exact h.raise (by decide)
  | claim pin sel => exact { h with uninit := nofun, halted := fun hv => by simp [hh] at hv }
  | fatal pin _ hok => exact { h with halted := fun _ => ⟨hok, hr⟩ }
  | send _ hok => exact h.startFrame hok hr
  | display k _ hok => exact (h.compose k hok).startFrame hok hr
  | range => exact h.raise (by decide)
  | both => exact (h.raise (by decide)).raise (by decide)
  | nothing => exact h
  | read n => exact h.respond _ hh hs
  | readReserved n => exact (h.respond _ hh hs).raise (by decide)

/-- Settles O58: each case of a step is a chain of shared operations, and each of them keeps the invariant. -/
theorem stepKeepsTheInvariant : Obligations.StepKeepsTheInvariant := by
  intro s t h hstep
  cases StepCase.of_step hstep with
  | reset => exact .applyReset s
  | frozen => exact h.advance
  | quiet => exact h.beginTick.finishTick
  | illegal => exact (h.clearResponse.raise (by decide)).finishTick
  | run p i u _ hh hs _ _ heff => exact (h.clearResponse.effect hh rfl hs heff).finishTick

end Sys2Proof.Machine

/-! PROOFS. The memory of the block (`20_memory.md`): the index mapper and the bytes of a frame, the buffer while a frame
is sent, the order of a tick's edges and command, and the word the next step runs. -/

namespace Sys2Proof.Machine

/-! ## The index mapper (R41) -/

theorem row_idx (r c : Fin 5) : row (idx r c) = r := by
  apply Fin.ext
  simp only [row, idx]
  omega

theorem col_idx (r c : Fin 5) : col (idx r c) = c := by
  apply Fin.ext
  simp only [col, idx]
  omega

/-- Settles O18: `row` and `col` are the quotient and the remainder by 5, so `idx` and the pair of them are inverses. -/
theorem indexMapperIsABijection : Obligations.IndexMapperIsABijection :=
  ⟨fun r c => ⟨rfl, row_idx r c, col_idx r c⟩, fun i => ⟨rfl, rfl, row_mul_add_col i⟩⟩

/-! ## The bytes of a frame (R44) -/

theorem frameBytes_length (pix : Vector Pixel 25) : (frameBytes pix).length = 75 := by
  have hlen : ∀ w : Pixel, [greenOf w, redOf w, blueOf w].length = 3 := fun _ => rfl
  simp [frameBytes, List.length_flatMap, hlen]

theorem greenOf_eq_ofNat (w : Pixel) : greenOf w = BitVec.ofNat 8 (w.toNat / 65536) := by
  rw [greenOf, BitVec.extractLsb', Nat.shiftRight_eq_div_pow]

theorem redOf_eq_ofNat (w : Pixel) : redOf w = BitVec.ofNat 8 (w.toNat / 256 % 256) := by
  apply BitVec.eq_of_toNat_eq
  simp [redOf, Nat.shiftRight_eq_div_pow]

theorem blueOf_eq_ofNat (w : Pixel) : blueOf w = BitVec.ofNat 8 (w.toNat % 256) := by
  apply BitVec.eq_of_toNat_eq
  simp [blueOf]

/-- Settles O39: byte `3 * i + j` is byte `j` of pixel `i`, and a pixel's bytes are the base 256 digits of its value. -/
theorem frameByteOrder : Obligations.FrameByteOrder := by
  refine fun pix => ⟨frameBytes_length pix, fun i => ?_⟩
  have hbyte := fun j => frameBytes_getElem? pix i j i.isLt
  refine ⟨(hbyte 0 (by omega)).trans ?_, (hbyte 1 (by omega)).trans ?_, (hbyte 2 (by omega)).trans ?_⟩
  · exact congrArg some (greenOf_eq_ofNat _)
  · exact congrArg some (redOf_eq_ofNat _)
  · exact congrArg some (blueOf_eq_ofNat _)

/-! ## The buffer while a frame is sent (R48) -/

/-- Settles O44: a busy serializer accepts no command, so the tick is frozen or quiet, and neither writes these. -/
theorem frameLeavesTheBuffer : Obligations.FrameLeavesTheBuffer := by
  intro s t p he hbusy h
  cases hh : s.halt with
  | true =>
    obtain rfl := Host.Outcome.next.inj ((step_frozen he hh).symm.trans h)
    exact ⟨rfl, rfl, rfl, hh⟩
  | false =>
    obtain rfl := Host.Outcome.next.inj ((step_busy he hh hbusy).symm.trans h)
    exact ⟨rfl, rfl, rfl, hh⟩

/-! ## Edges and commands of one tick (R54, R55) -/

/-- A command other than `RD` tests only what the channels' tick leaves alone, and each of its writes commutes with that
tick. -/
theorem exec_buttonTick {i : Instr} {s t : State} (hi : ∀ n, i ≠ .rd n) (h : exec i s = .next t) :
    exec i s.buttonTick = .next t.buttonTick := by
  cases i with
  | init pin =>
    simp only [exec, execInit, State.buttonTick_drv, State.buttonTick_ports, State.buttonTick_raise,
      State.buttonTick_claim] at h ⊢
    split_ifs at h ⊢ <;> cases h <;> rfl
  | wr =>
    simp only [exec, execWr, State.buttonTick_drv, State.buttonTick_startFrame, State.buttonTick_raise] at h ⊢
    split_ifs at h ⊢ <;> cases h <;> rfl
  | dig d =>
    simp only [exec, execDig, State.buttonTick_drv, State.buttonTick_display, State.buttonTick_raise] at h ⊢
    split at h
    · cases h; rfl
    · split_ifs at h ⊢ <;> cases h <;> rfl
  | chr c =>
    simp only [exec, execChr, State.buttonTick_display] at h ⊢
    split at h <;> cases h <;> rfl
  | rd n => exact absurd rfl (hi n)

/-- Settles O35: every command answers, and its answer commutes with the channels' tick. -/
theorem edgesCommuteWithCommands : Obligations.EdgesCommuteWithCommands := by
  intro i s hi
  obtain ⟨t, ht, -⟩ := exec_cases i s
  exact ⟨t, ht, exec_buttonTick hi ht⟩

/-- A channel's step keeps the timestamp, or sets it to a time the debounce test accepts (`42_button_core.md` R134). -/
theorem ButtonChannel.step_ts_cases (never : Bool) (now : Word32) (pin : Bool) (c : ButtonChannel) :
    (c.step never now pin).ts = c.ts ∨ 200 ≤ ((c.step never now pin).ts - c.ts).toNat ∨
      (never = true ∧ c.seen = false) := by
  obtain ⟨-, ha, hs⟩ | ⟨-, hs⟩ := c.step_cases never now pin
  · rw [hs]
    exact .inr ((c.accepts_iff never now).mp ha)
  · rw [hs]
    exact .inl rfl

/-- Settles O54: each channel by itself, frozen or stepped. -/
theorem timestampMovesByTheInterval : Obligations.TimestampMovesByTheInterval := by
  intro s t p he h
  obtain ⟨u, hu, hcases⟩ := step_buttons_cases he
  obtain rfl : t = u := Host.Outcome.next.inj (h.symm.trans hu)
  obtain ⟨-, ha, hb⟩ | ⟨-, ha, hb⟩ := hcases
  · exact ⟨.inl (congrArg _ ha), .inl (congrArg _ hb)⟩
  · rw [ha, hb]
    exact ⟨s.btnA.step_ts_cases _ _ _, s.btnB.step_ts_cases _ _ _⟩

/-! ## The next command (R57) -/

/-- The word put on the port is offered at a tick, whatever was listed before (log 5). -/
theorem State.offer_event (w : CommandWord) (s : State) :
    ∃ p, (s.offer w).event = .tick p ∧ p.cmdValid = true ∧ p.cmd = w := by
  simp only [State.offer, State.event, Env.upcoming]
  obtain _ | ⟨_ | q, rest⟩ := s.env.feed <;> exact ⟨_, rfl, rfl, rfl⟩

/-- A legal word offered is the command of the next step: `offer` makes the block ready (R10). -/
theorem State.tickKind_offer {w : CommandWord} {i : Instr} (s : State) (hd : decode w = .ok i) :
    (s.offer w).tickKind = .run i := by
  obtain ⟨p, he, hv, rfl⟩ := s.offer_event w
  exact State.tickKind_run he rfl rfl hv hd

theorem decodeTableWord_eq_some {nbits w : Nat} {i : Instr} :
    decodeTableWord nbits w = some i ↔ decode (BitVec.ofNat 16 (w % 2 ^ nbits)) = .ok i := by
  rw [decodeTableWord]
  cases decode (BitVec.ofNat 16 (w % 2 ^ nbits)) <;> simp [Except.toOption]

/-- Settles O6: the table's word is read by `decode`, and a legal word offered is run. -/
theorem offeredTableWordRuns : Obligations.OfferedTableWordRuns :=
  fun s _ _ h => s.tickKind_offer (decodeTableWord_eq_some.mp h)

end Sys2Proof.Machine

/-! PROOFS. The encoding (`30_encoding.md`): a word and its fields, the decoder as the inverse of the encoder (R62), the
decoding algorithm in numbers (R63), and the count of the legal words (R64). -/

namespace Sys2Proof

/-! ## A word and its fields (R60) -/

theorem splitWord_append (w : CommandWord) : (splitWord w).op ++ (splitWord w).rsv ++ (splitWord w).arg = w := by
  dsimp only [splitWord]
  rw [BitVec.extractLsb'_append_extractLsb'_eq_extractLsb' (show 12 = 8 + 4 from rfl),
    BitVec.extractLsb'_append_extractLsb'_eq_extractLsb' (show 8 = 0 + 8 from rfl)]
  exact BitVec.extractLsb'_eq_self

theorem splitWord_of_append (f : C16) : splitWord (f.op ++ f.rsv ++ f.arg) = f := by
  have hop : (f.op ++ f.rsv ++ f.arg).extractLsb' 12 4 = f.op := by
    rw [BitVec.extractLsb'_append_eq_of_le (by decide)]
    exact BitVec.extractLsb'_append_eq_left
  have hrsv : (f.op ++ f.rsv ++ f.arg).extractLsb' 8 4 = f.rsv := by
    rw [BitVec.extractLsb'_append_eq_of_le (by decide)]
    exact BitVec.extractLsb'_append_eq_right
  rw [splitWord, hop, hrsv, BitVec.extractLsb'_append_eq_right]

theorem splitWord_eq_fields_iff {w : CommandWord} {i : Instr} : splitWord w = i.fields ↔ encode i = w := by
  constructor
  · intro h
    rw [encode, ← h, splitWord_append]
  · rintro rfl
    exact splitWord_of_append i.fields

/-! ## The decoder as the inverse of the encoder (R62) -/

/-- The decoder answers a command exactly on the word with that command's fields: its branches are the rows of the
table. -/
theorem decode_eq_ok_iff {w : CommandWord} {i : Instr} : decode w = .ok i ↔ encode i = w := by
  rw [← splitWord_eq_fields_iff, decode]
  generalize splitWord w = f
  constructor
  · intro h
    obtain ⟨op, rsv, arg⟩ := f
    split_ifs at h <;> cases h
    all_goals simp_all [Instr.fields]
  · rintro rfl
    cases i <;> rfl

theorem encode_injective : Function.Injective encode := fun _ _ h =>
  Except.ok.inj ((decode_eq_ok_iff.mpr h).symm.trans (decode_eq_ok_iff.mpr rfl))

theorem encode_matches_tableRow (i : Instr) : encode i &&& i.tableRow.2 = i.tableRow.1 := by
  cases i with
  | init pin => exact (Laws.EncodingTable.init pin).1
  | wr => exact Laws.EncodingTable.wr.1
  | dig d => exact (Laws.EncodingTable.dig d).1
  | chr c => exact (Laws.EncodingTable.chr c).1
  | rd n => exact (Laws.EncodingTable.rd n).1

/-- Settles O2: the decoder inverts the encoder, and each command's row is checked by its law. -/
theorem decodeOfEncode : Obligations.DecodeOfEncode :=
  fun i => ⟨decode_eq_ok_iff.mpr rfl, encode_matches_tableRow i⟩

/-- Settles O3: the other direction of the same equivalence. -/
theorem encodeOfDecode : Obligations.EncodeOfDecode := fun _ _ => decode_eq_ok_iff.mp

/-! ## The decoding algorithm in numbers (R63) -/

theorem Instr.fields_rsv (i : Instr) : i.fields.rsv = 0#4 := by cases i <;> rfl

/-- The assigned operation codes are 1 to 5 (R62). -/
theorem Instr.fields_op_bounds (i : Instr) : 1 ≤ i.fields.op.toNat ∧ i.fields.op.toNat ≤ 5 := by
  cases i <;> simp [Instr.fields]

theorem Instr.fields_arg_of_op_eq_two {i : Instr} (h : i.fields.op.toNat = 2) : i.fields.arg.toNat = 0 := by
  cases i <;> simp [Instr.fields] at h ⊢

theorem toNat_append_eq_add {m n : Nat} (x : BitVec m) (y : BitVec n) : (x ++ y).toNat = x.toNat * 2 ^ n + y.toNat := by
  rw [BitVec.toNat_append, ← Nat.shiftLeft_add_eq_or_of_lt y.isLt, Nat.shiftLeft_eq]

theorem encode_toNat (i : Instr) : (encode i).toNat = 4096 * i.fields.op.toNat + i.fields.arg.toNat := by
  rw [encode, toNat_append_eq_add, toNat_append_eq_add, i.fields_rsv, BitVec.toNat_zero]
  omega

/-- The fields of a legal word, as quotients and remainders of its value. -/
theorem decode_eq_ok_iff_toNat {w : CommandWord} {i : Instr} : decode w = .ok i ↔
    w.toNat / 4096 = i.fields.op.toNat ∧ w.toNat / 256 % 16 = 0 ∧ w.toNat % 256 = i.fields.arg.toNat := by
  rw [decode_eq_ok_iff, ← BitVec.toNat_inj, encode_toNat]
  have := i.fields.arg.isLt
  omega

/-- A word that is the word of no command is illegal. -/
theorem exists_decode_error {w : CommandWord} (h : ∀ i, decode w ≠ .ok i) : ∃ e, decode w = .error e := by
  cases hd : decode w with
  | error e => exact ⟨e, rfl⟩
  | ok i => exact absurd hd (h i)

/-- Settles O1: a legal word has its command's fields, so a word is illegal when its fields are no command's. -/
theorem decodingAlgorithm : Obligations.DecodingAlgorithm := by
  intro w
  have harg : w.toNat % 256 = (BitVec.ofNat 8 (w.toNat % 256)).toNat := by simp
  constructor
  · intro hrsv
    refine exists_decode_error fun i h => ?_
    obtain ⟨-, h0, -⟩ := decode_eq_ok_iff_toNat.mp h
    exact hrsv h0
  · intro hrsv
    refine ⟨fun hop => ?_, fun hop h0 => ?_, fun hop h0 => ?_, fun hop => ?_, fun hop => ?_, fun hop => ?_,
      fun hop => ?_⟩
    · exact decode_eq_ok_iff_toNat.mpr ⟨hop, hrsv, harg⟩
    · exact decode_eq_ok_iff_toNat.mpr ⟨hop, hrsv, h0⟩
    · refine exists_decode_error fun i h => ?_
      obtain ⟨hi, -, ha⟩ := decode_eq_ok_iff_toNat.mp h
      exact h0 (ha.trans (Instr.fields_arg_of_op_eq_two (hi.symm.trans hop)))
    · exact decode_eq_ok_iff_toNat.mpr ⟨hop, hrsv, harg⟩
    · exact decode_eq_ok_iff_toNat.mpr ⟨hop, hrsv, harg⟩
    · exact decode_eq_ok_iff_toNat.mpr ⟨hop, hrsv, harg⟩
    · refine exists_decode_error fun i h => ?_
      obtain ⟨hi, -, -⟩ := decode_eq_ok_iff_toNat.mp h
      have := i.fields_op_bounds
      omega

/-! ## The legal words (R64) -/

/-- All operands, `0` to `255` (R61). -/
def allBytes : List Byte := (List.finRange 256).map BitVec.ofFin

theorem mem_allBytes (b : Byte) : b ∈ allBytes :=
  List.mem_map.mpr ⟨b.toFin, List.mem_finRange _, rfl⟩

theorem allBytes_nodup : allBytes.Nodup :=
  (List.nodup_finRange 256).map fun _ _ h => congrArg BitVec.toFin h

theorem allBytes_length : allBytes.length = 256 := by
  rw [allBytes, List.length_map, List.length_finRange]

/-- The commands that take an operand (R61). -/
def operandCommands : List (Byte → Instr) := [.init, .dig, .chr, .rd]

/-- All commands: `WR`, and the others with every operand (R62). -/
def allCommands : List Instr := .wr :: operandCommands.flatMap fun f => allBytes.map f

theorem mem_allCommands (i : Instr) : i ∈ allCommands := by
  cases i <;> simp [allCommands, operandCommands, mem_allBytes]

theorem allCommands_length : allCommands.length = 1025 := by
  simp [allCommands, operandCommands, allBytes_length]

theorem allCommands_nodup : allCommands.Nodup := by
  have hmap : ∀ f ∈ operandCommands, (allBytes.map f).Nodup := by
    simp [operandCommands, List.nodup_map_iff_inj_on, allBytes_nodup]
  have hdisj : operandCommands.Pairwise (Function.onFun List.Disjoint fun f => allBytes.map f) := by
    simp [operandCommands, List.Disjoint, Function.onFun]
  refine List.nodup_cons.mpr ⟨?_, List.nodup_flatMap.mpr ⟨hmap, hdisj⟩⟩
  simp [operandCommands]

/-- Settles O4: the legal words are the words of the commands, and no two commands share a word. -/
theorem legalWordsNumber1025 : Obligations.LegalWordsNumber1025 := by
  refine ⟨allCommands.map encode, allCommands_nodup.map encode_injective, ?_, fun w => ?_⟩
  · rw [List.length_map, allCommands_length]
  · simp [decode_eq_ok_iff, mem_allCommands]

/-- Settles O5, by running the decoder on each word. -/
theorem sampleWordsDecode : Obligations.SampleWordsDecode :=
  ⟨rfl, rfl, rfl, rfl, rfl, rfl, rfl, rfl, rfl⟩

end Sys2Proof

/-! PROOFS. The LED chain driver (`40_led_chain_driver.md`): the commands `INIT` and `WR` (R81 to R85), the serializer
in each of its phases (R87 to R90), and the run from the tick that accepts a frame command (R91 to R94). -/

namespace Sys2Proof.Machine

/-! ## `INIT` and `WR` (R82 to R85) -/

theorem execInit_of_not_initOk {s : State} (pin : Byte) (h : s.drv.initOk = false) :
    execInit pin s = if s.ports.tgAvail[0] then .next (s.claim false pin)
      else if s.ports.tgAvail[1] then .next (s.claim true pin)
      else .next (s.raise .fatalNoTimingGenerator) :=
  if_neg (by simp [h])

/-- Settles O9: before `INIT` the two bits of `tg_avail` alone choose the claim, and each row gives both. -/
theorem initClaimTable : Obligations.InitClaimTable := by
  intro pin s h
  simp only [exec, execInit_of_not_initOk pin h]
  refine ⟨fun htg => ?_, fun htg => ?_, fun htg => ?_, fun htg => ?_⟩ <;>
  · rw [htg]
    rfl

/-- Settles O10: the first case of `INIT`; the other two are those before a successful `INIT`. -/
theorem secondInitOnlySetsErrSeq : Obligations.SecondInitOnlySetsErrSeq := by
  intro pin s h
  obtain ⟨-, hexec⟩ | ⟨hno, -⟩ | ⟨hno, -⟩ := execInit_cases pin s
  · exact hexec
  all_goals simp [h] at hno

/-- Settles O11: the two cases of `WR`. -/
theorem wrSendsTheBuffer : Obligations.WrSendsTheBuffer := by
  intro s
  obtain ⟨hok, hexec⟩ | ⟨hno, hexec⟩ := execWr_cases s
  · exact ⟨fun _ => hexec, fun h => by simp [hok] at h⟩
  · exact ⟨fun h => by simp [hno] at h, fun _ => hexec⟩

/-! ## The commands that start a frame (R85, R93) -/

theorem digitOf_isSome (d : Byte) : (digitOf d).isSome = true ↔ d.toNat ≤ 9 := by
  rw [Option.isSome_iff_ne_none, ne_eq, digitOf_eq_none, Nat.not_lt]

theorem asciiDigitOf_isSome (c : Byte) : (asciiDigitOf c).isSome = true ↔ 0x30 ≤ c.toNat ∧ c.toNat ≤ 0x39 := by
  rw [Option.isSome_iff_ne_none, ne_eq, asciiDigitOf_eq_none, not_or, Nat.not_lt, Nat.not_lt]

/-- `startsFrame` names the commands that call `start_frame` (R84, `41_matrix_renderer.md` R111, R114). -/
theorem startsFrame_iff (i : Instr) (s : State) :
    startsFrame i s = true ↔ s.drv.initOk = true ∧ (i = .wr ∨ (∃ d : Byte, i = .dig d ∧ d.toNat ≤ 9) ∨
      ∃ c : Byte, i = .chr c ∧ 0x30 ≤ c.toNat ∧ c.toNat ≤ 0x39) := by
  cases i with
  | dig d => simp [startsFrame, digitOf_isSome]
  | chr c => simp [startsFrame, asciiDigitOf_isSome]
  | init _ | wr | rd _ => simp [startsFrame]

/-- A command that starts a frame sets the serializer to its first tick and raises nothing; any other leaves the
serializer alone. -/
theorem Effect.startsFrame_cases {i : Instr} {s t : State} (h : Effect i s t) :
    (startsFrame i s = true ∧ t.ser = ⟨.shift, 0, 0, s.ser.gapCnt⟩ ∧ t.halt = s.halt ∧ t.err = s.err) ∨
    (startsFrame i s = false ∧ t.ser = s.ser) := by
  cases h with
  | sequence hok _ => exact .inr ⟨by cases i <;> simp_all [startsFrame], by simp⟩
  | send hi hok => exact .inl ⟨by simp [hi, startsFrame, hok], by simp⟩
  | display k hk hok =>
    obtain ⟨d, rfl, hd⟩ | ⟨c, rfl, hc⟩ := hk
    · exact .inl ⟨by simp [startsFrame, hok, hd], by simp⟩
    · exact .inl ⟨by simp [startsFrame, hok, hc], by simp⟩
  | claim _ _ hi | fatal _ hi | read _ hi | readReserved _ hi => exact .inr ⟨by simp [hi, startsFrame], by simp⟩
  | range d hi hd | both d hi hd | nothing d hi hd => exact .inr ⟨by simp [hi, startsFrame, hd], by simp⟩

theorem lineEvents_of_shift {s t : State} (hs : s.ser.phase = .idle) (ht : t.ser.phase = .shift) :
    lineEvents s t = [.frame (frameBytes t.pix), .gap] :=
  if_pos ⟨hs, ht⟩

theorem lineEvents_of_ser_eq {s t : State} (h : t.ser = s.ser) : lineEvents s t = [] :=
  if_neg fun ⟨hs, ht⟩ => by simp [h, hs] at ht

/-- Settles O45: the effect of a command starts the serializer exactly under `startsFrame`, and then raises nothing. -/
theorem oneFrameOrNone : Obligations.OneFrameOrNone := by
  intro i s hs
  obtain ⟨t, ht, heff⟩ := exec_cases i s
  refine ⟨t, ht, ?_⟩
  obtain ⟨hstart, hser, hhalt, herr⟩ | ⟨hno, hser⟩ := heff.startsFrame_cases
  · exact ⟨fun _ _ => ⟨frameBytes_length t.pix, lineEvents_of_shift hs (by rw [hser])⟩,
      fun hn => absurd ((startsFrame_iff i s).mp hstart) hn, fun hx => by simp [hhalt, herr] at hx⟩
  · have hnone := lineEvents_of_ser_eq hser
    refine ⟨fun hok hi => ?_, fun _ => hnone, fun _ => hnone⟩
    simp [(startsFrame_iff i s).mpr ⟨hok, hi⟩] at hno

/-! ## The ports by the serializer's phase (R87, R88, R90) -/

theorem State.dout_of_not_shift {s : State} (h : s.ser.phase ≠ .shift) : s.dout = false := by
  rw [State.dout]
  split
  · contradiction
  · rfl
  · rfl

theorem State.dout_of_shift {s : State} (hp : s.ser.phase = .shift) (hh : s.halt = false) :
    s.dout = decide (s.ser.tick.val < highTicks (frameBit s.pix s.ser.pos)) := by
  simp [State.dout, hp, hh]

theorem State.cmdReady_of_busy {s : State} (h : s.ser.phase ≠ .idle) : s.cmdReady = false := by
  cases he : s.event with
  | reset => simp [State.cmdReady, he]
  | tick p => simp [State.cmdReady_of_tick he, h]

/-- A step runs a command only as the word accepted at a tick (`10_state.md` R10). -/
theorem State.of_tickKind_eq_run {s : State} {i : Instr} (h : s.tickKind = .run i) :
    ∃ p, s.event = .tick p ∧ s.halt = false ∧ s.ser.phase = .idle ∧ p.cmdValid = true ∧ decode p.cmd = .ok i := by
  cases he : s.event with
  | reset => simp [State.tickKind_reset he] at h
  | tick p =>
    simp only [State.tickKind, he] at h
    split at h
    · cases h
    · split at h
      next ha =>
        obtain ⟨hv, hs, hh⟩ := State.accepts_spec he ha
        split at h <;> cases h
        exact ⟨p, rfl, hh, hs, hv, ‹_›⟩
      next => cases h

theorem State.FrameAccepted.idle {s : State} (h : s.FrameAccepted) : s.ser.phase = .idle := by
  obtain ⟨i, hrun, -⟩ := h
  obtain ⟨p, -, -, hs, -⟩ := State.of_tickKind_eq_run hrun
  exact hs

/-- Settles O37: an idle serializer does not step by itself, and a command that leaves it idle starts no frame. -/
theorem idleSerializer : Obligations.IdleSerializer := by
  intro s p hs he
  refine ⟨State.dout_of_not_shift (by simp [hs]), by simp [State.cmdReady_of_tick he, hs], fun t ht hn => ?_⟩
  cases StepCase.of_step ht with
  | reset hr => simp [he] at hr
  | frozen => rfl
  | quiet => exact Serializer.step_idle hs
  | illegal => simp
  | run q i u hq hh _ hv hd heff =>
    obtain ⟨hstart, -⟩ | ⟨-, hser⟩ := heff.startsFrame_cases
    · exact absurd ⟨i, State.tickKind_run hq hh hs hv hd, hstart⟩ hn
    · exact hser

/-- Settles O38: `dout` compares `TICK` with the high time of the frame's bit, and the two forms of the bit agree. -/
theorem lineLevelInShift : Obligations.LineLevelInShift :=
  fun s hp hh => ⟨State.dout_of_shift hp hh, frameBit_eq_wireBit s.pix s.ser.pos⟩

/-! ## The run from the tick that accepts a frame command (R89 to R94) -/

/-- The accepting tick leaves the serializer at the first tick of the first bit. -/
theorem State.FrameAccepted.step_shift {s : State} (h : s.FrameAccepted) :
    ∃ v, step s = .next v ∧ v.ser = ⟨.shift, 0, 0, s.ser.gapCnt⟩ ∧ v.halt = false := by
  obtain ⟨i, hrun, hstart⟩ := h
  obtain ⟨p, he, hh, hs, hv, hd⟩ := State.of_tickKind_eq_run hrun
  obtain ⟨t, ht, heff⟩ := exec_cases i s.clearResponse
  refine ⟨t.finishTick, step_run he hh hs hv hd ht, ?_⟩
  obtain ⟨-, hser, hhalt, -⟩ | ⟨hno, -⟩ := heff.startsFrame_cases
  · exact ⟨hser, hhalt.trans hh⟩
  · exact absurd (hno.symm.trans hstart) Bool.false_ne_true

/-- From there the serializer steps on its own to the end of the gap, over the buffer in `S(t0)`. -/
theorem State.FrameAccepted.run {s : State} (h : s.FrameAccepted) (ht : s.TicksAhead 6801) :
    ∃ v, after 1 s = .next v ∧ ∀ k, k ≤ 6800 → ∃ u, after (1 + k) s = .next u ∧ u.pix = v.pix ∧ u.halt = false ∧
      u.ser = Serializer.step^[k] ⟨.shift, 0, 0, s.ser.gapCnt⟩ := by
  obtain ⟨v, hv, hser, hh⟩ := h.step_shift
  refine ⟨v, (after_one s).trans hv, fun k hk => ?_⟩
  obtain ⟨u, hu, hr⟩ := after_frame hv hser hh hk fun j hj => ht j (by omega)
  exact ⟨u, hu, hr.pix, hr.halt.trans hh, hser ▸ hr.ser⟩

/-- Settles O40: the cases of the serializer's tick, and its iterates along the run of a frame. -/
theorem frameTimeline : Obligations.FrameTimeline := by
  refine ⟨fun q hq => ⟨fun ht => ?_, fun ht hp => ?_, fun ht hp => ?_⟩, fun q hq => ⟨fun hg => ?_, fun hg => ?_⟩,
    fun s hs => State.dout_of_not_shift (by simp [hs]), fun s hs ht => ?_⟩
  · rw [Serializer.step_shift_tick hq (by omega)]
    exact ⟨hq, rfl, rfl⟩
  · rw [Serializer.step_shift_bit hq ht (by omega)]
    exact ⟨hq, rfl, rfl⟩
  · rw [Serializer.step_shift_end hq ht hp]
    exact ⟨rfl, rfl⟩
  · rw [Serializer.step_gap_count hq (by omega)]
    exact ⟨hq, rfl⟩
  · rw [Serializer.step_gap_end hq hg]
  · obtain ⟨v, -, hrun⟩ := hs.run ht
    refine ⟨fun k hk => ?_, fun g hg => ?_, ?_⟩
    · obtain ⟨u, hu, -, -, hser⟩ := hrun k (by omega)
      rw [Serializer.iterate_step_shift _ k (by omega)] at hser
      exact ⟨u, hu, by simp [hser]⟩
    · obtain ⟨u, hu, -, -, hser⟩ := hrun (6000 + g) (by omega)
      rw [Serializer.iterate_step_gap _ g (by omega)] at hser
      exact ⟨u, hu, by simp [hser]⟩
    · obtain ⟨u, hu, -, -, hser⟩ := hrun 6800 (by omega)
      rw [Serializer.iterate_step_done] at hser
      exact ⟨u, hu, by simp [hser]⟩

/-- Settles O41: the serializer is busy along the run, and idle at its end, where one more tick is ahead. -/
theorem busyFor6800Ticks : Obligations.BusyFor6800Ticks := by
  intro s hs ht
  obtain ⟨v, -, hrun⟩ := hs.run fun j hj => ht j (by omega)
  refine ⟨fun k hk => ?_, ?_⟩
  · obtain ⟨u, hu, -, -, hser⟩ := hrun k (by omega)
    exact ⟨u, hu, State.cmdReady_of_busy (hser ▸ Serializer.iterate_step_not_idle _ k hk)⟩
  · obtain ⟨u, hu, -, hh, hser⟩ := hrun 6800 (by omega)
    obtain ⟨p, hp⟩ := ht 6801 (by omega)
    have he : u.event = .tick p := (after_upcoming hu 0).trans hp
    rw [Serializer.iterate_step_done] at hser
    exact ⟨u, hu, by simp [State.cmdReady_of_tick he, hser, hh]⟩

/-- Settles O42: tick `10 * b + 3` of the run is the third of bit `b`, where the line holds the frame's bit `b`. -/
theorem lineDecodesToTheFrame : Obligations.LineDecodesToTheFrame := by
  intro s hs ht
  obtain ⟨v, hv, hrun⟩ := hs.run ht
  refine ⟨v, hv, fun k m hk hm => ?_⟩
  obtain ⟨u, hu, hpix, hh, hser⟩ := hrun (10 * (8 * k + m) + 3) (by omega)
  rw [Serializer.iterate_step_shift _ _ (by omega)] at hser
  have hbit := State.dout_third_tick (by rw [hser]) hh (by rw [hser]; simp only; omega)
  refine ⟨u, hu, hbit.trans ?_⟩
  rw [hpix, hser, wireBit, show (10 * (8 * k + m) + 3) / 10 / 8 = k by omega,
    show (10 * (8 * k + m) + 3) / 10 % 8 = m by omega]

theorem Serializer.iterate_step_not_shift (g : Fin 800) (k : Nat) (hk : k ≤ 800) :
    (Serializer.step^[6000 + k] ⟨.shift, 0, 0, g⟩).phase ≠ .shift := by
  obtain h | rfl := Nat.lt_or_eq_of_le hk
  · simp [iterate_step_gap g k h]
  · simp [iterate_step_done]

/-- Settles O43: past the last bit the serializer is not in `SHIFT`, and before the end of the gap it is not in
`IDLE`. -/
theorem lineIsLowInTheGap : Obligations.LineIsLowInTheGap := by
  intro s hs ht
  obtain ⟨v, -, hrun⟩ := hs.run ht
  refine ⟨fun g hg => ?_, fun k hk => ?_⟩
  · obtain ⟨u, hu, -, -, hser⟩ := hrun (6000 + g) (by omega)
    exact ⟨u, hu, State.dout_of_not_shift (hser ▸ Serializer.iterate_step_not_shift _ g hg)⟩
  · obtain ⟨u, hu, -, -, hser⟩ := hrun k (by omega)
    exact ⟨u, hu, fun hf => Serializer.iterate_step_not_idle _ k hk (hser ▸ hf.idle)⟩

end Sys2Proof.Machine

/-! PROOFS. The matrix renderer (`41_matrix_renderer.md`): `DIG` and `CHR` with a digit (R112 to R115), the number of
one bits in a digit's frame (R116), and the answer of every step (R119). -/

namespace Sys2Proof.Machine

/-! ## A legal digit (R112, R114) -/

theorem exec_dig_of_le {d : Byte} (hd : d.toNat ≤ 9) (s : State) :
    exec (.dig d) s = .next (s.display ⟨d.toNat, by omega⟩) := by
  simp only [exec, execDig, digitOf_of_le hd]

theorem asciiDigitOf_of_bounds {c : Byte} (hc : 0x30 ≤ c.toNat ∧ c.toNat ≤ 0x39) :
    asciiDigitOf c = some ⟨c.toNat - 0x30, by omega⟩ :=
  dif_pos hc

theorem exec_chr_of_ascii_digit {c : Byte} (hc : 0x30 ≤ c.toNat ∧ c.toNat ≤ 0x39) (s : State) :
    exec (.chr c) s = .next (s.display ⟨c.toNat - 0x30, by omega⟩) := by
  simp only [exec, execChr, asciiDigitOf_of_bounds hc]

theorem exec_chr_of_not_ascii_digit {c : Byte} (hc : c.toNat < 0x30 ∨ 0x39 < c.toNat) (s : State) :
    exec (.chr c) s = .next s := by
  simp only [exec, execChr, asciiDigitOf_eq_none.mpr hc]

/-- Both commands hand the same digit to `display`. -/
theorem exec_chr_eq_exec_dig {c : Byte} (hc : 0x30 ≤ c.toNat ∧ c.toNat ≤ 0x39) (s : State) :
    exec (.chr c) s = exec (.dig (c - 0x30)) s := by
  have hsub : (c - 0x30).toNat = c.toNat - 0x30 := BitVec.toNat_sub_of_le (BitVec.le_def.mpr hc.1)
  rw [exec_chr_of_ascii_digit hc, exec_dig_of_le (show (c - 0x30).toNat ≤ 9 by omega)]
  simp only [hsub]

theorem State.display_of_initOk (d : Fin 10) {s : State} (h : s.drv.initOk = true) :
    s.display d = (s.compose d).startFrame :=
  if_pos h

theorem State.display_of_not_initOk (d : Fin 10) {s : State} (h : s.drv.initOk = false) :
    s.display d = s.raise .sequenceError :=
  if_neg (by simp [h])

/-- After `INIT`, `display` writes every pixel from its glyph cell, starts a frame, and changes nothing else. -/
theorem State.display_spec (d : Fin 10) {s : State} (h : s.drv.initOk = true) :
    ∃ pix : Vector Pixel 25,
      (∀ i : Fin 25, pix[i] = if s.par.glyph[d].getLsbD (5 * (i.val / 5) + i.val % 5) then 0x00FF00#24
        else 0x000000#24) ∧
      s.display d =
        { s with pix := pix, ser := { phase := .shift, pos := 0, tick := 0, gapCnt := s.ser.gapCnt } } := by
  refine ⟨(s.compose d).pix, fun i => State.compose_getElem s d i i.isLt, ?_⟩
  simp only [State.display_of_initOk d h, State.startFrame, State.compose]

/-- Settles O13: a legal digit is displayed. -/
theorem digComposesAndSends : Obligations.DigComposesAndSends := by
  intro d s hd h
  obtain ⟨pix, hpix, hdisp⟩ := State.display_spec ⟨d.toNat, hd⟩ h
  exact ⟨pix, hpix, by rw [exec_dig_of_le (Nat.le_of_lt_succ hd), hdisp]⟩

/-- Settles O15: an ASCII digit is displayed, as `DIG` displays it; any other byte is ignored. -/
theorem chrRoutesTheByte : Obligations.ChrRoutesTheByte := by
  refine fun c s => ⟨fun hc => ⟨exec_chr_eq_exec_dig hc s, fun h => ?_, fun h => ?_⟩,
    fun hc => exec_chr_of_not_ascii_digit hc s⟩
  · obtain ⟨pix, hpix, hdisp⟩ := State.display_spec ⟨c.toNat - 0x30, by omega⟩ h
    exact ⟨pix, hpix, by rw [exec_chr_of_ascii_digit hc, hdisp]⟩
  · rw [exec_chr_of_ascii_digit hc, State.display_of_not_initOk _ h]
    rfl

/-- Settles O16: the composed buffer is a function of the glyph table and the digit. -/
theorem noStaleCell : Obligations.NoStaleCell := by
  intro d s s' hd h h' hpar
  refine ⟨_, _, exec_dig_of_le hd s, exec_dig_of_le hd s', ?_⟩
  simp only [State.display_of_initOk _ h, State.display_of_initOk _ h', State.startFrame_pix, State.compose, hpar]

/-! ## The one bits of a frame (R116) -/

/-- The number of one bits a pixel puts on the line, bit 23 first. -/
def pixelOnes (w : Pixel) : Nat := Nat.count (fun k => w.getLsbD (23 - k)) 24

theorem length_filter_range_eq_count (p : Nat → Bool) (n : Nat) :
    ((List.range n).filter p).length = Nat.count (fun k => p k) n := by
  simp only [Nat.count, Bool.decide_eq_true, List.countP_eq_length_filter]

/-- Bits `24 * i` to `24 * i + 23` of a frame are those of pixel `i`. -/
theorem wireBit_frameBytes_pixel (pix : Vector Pixel 25) {i k : Nat} (hi : i < 25) (hk : k < 24) :
    wireBit (frameBytes pix) (24 * i + k) = pix[i].getLsbD (23 - k) := by
  rw [← frameBit_eq_wireBit pix ⟨24 * i + k, by omega⟩]
  simp only [frameBit, show (24 * i + k) / 24 = i by omega, show (24 * i + k) % 24 = k by omega]

theorem count_wireBit_frameBytes_succ (pix : Vector Pixel 25) {n : Nat} (hn : n < 25) :
    Nat.count (fun p => wireBit (frameBytes pix) p) (24 * (n + 1)) =
      Nat.count (fun p => wireBit (frameBytes pix) p) (24 * n) + pixelOnes pix[n] := by
  have hblock : Nat.count (fun k => wireBit (frameBytes pix) (24 * n + k)) 24 = pixelOnes pix[n] := by
    simp only [pixelOnes, Nat.count, Bool.decide_eq_true]
    refine List.countP_congr fun k hk => ?_
    rw [wireBit_frameBytes_pixel pix hn (List.mem_range.mp hk)]
  rw [Nat.mul_succ, Nat.count_add, hblock]

theorem pixelOnes_RED : pixelOnes RED = 8 := by decide
theorem pixelOnes_BLACK : pixelOnes BLACK = 0 := by decide

theorem pixelOnes_cellColour (g : Vector GlyphWord 10) (d : Fin 10) (i : Fin 25) :
    pixelOnes (cellColour g d i) = 8 * if g[d].getLsbD i then 1 else 0 := by
  rw [cellColour_eq]
  split
  · exact pixelOnes_RED
  · exact pixelOnes_BLACK

/-- The first `n` pixels of a digit's frame, by induction on `n`: each lit cell adds the 8 bits of full red. -/
theorem count_wireBit_compose (d : Fin 10) (s : State) (n : Nat) (hn : n ≤ 25) :
    Nat.count (fun p => wireBit (frameBytes (s.compose d).pix) p) (24 * n) =
      8 * Nat.count (fun i => s.par.glyph[d].getLsbD i) n := by
  induction n with
  | zero => simp
  | succ n ih =>
    rw [count_wireBit_frameBytes_succ _ hn, ih (Nat.le_of_succ_le hn), State.compose_getElem,
      pixelOnes_cellColour, Nat.count_succ, Nat.mul_add]

/-- Settles O17: the count over all 25 pixels. -/
theorem frameOnesCountLitCells : Obligations.FrameOnesCountLitCells := by
  intro d s
  rw [frameOnes, length_filter_range_eq_count, length_filter_range_eq_count]
  exact count_wireBit_compose d s 25 (Nat.le_refl 25)

/-! ## Every step answers (R119) -/

/-- Settles O30: every case of a step is a next state. -/
theorem everyStepAnswersNext : Obligations.EveryStepAnswersNext := fun s =>
  (step_cases s).imp fun _ ⟨hstep, _⟩ => hstep

end Sys2Proof.Machine

/-! PROOFS. The debounced button channels (`42_button_core.md`): the debounce transition on a tick (R132 to R136), two
edges and the first edge after reset (R135, R137), the independence of the channels (R138), and the level beside the
flag (R141, R142). -/

namespace Sys2Proof.Machine

/-! ## The debounce transition (R132 to R137) -/

/-- The debounce test with the elapsed time as a difference of numbers modulo 2^32 (R134). -/
theorem ButtonChannel.accepts_iff_mod (never : Bool) (now : Word32) (c : ButtonChannel) :
    c.accepts never now = true ↔
      200 ≤ (now.toNat + 2 ^ 32 - c.ts.toNat) % 2 ^ 32 ∨ (never = true ∧ c.seen = false) := by
  have hsub : (now - c.ts).toNat = (now.toNat + 2 ^ 32 - c.ts.toNat) % 2 ^ 32 := by
    rw [BitVec.toNat_sub, Nat.add_comm now.toNat, Nat.sub_add_comm c.ts.isLt.le]
  rw [ButtonChannel.accepts_iff, hsub]

theorem ButtonChannel.falling_eq_false_iff (c : ButtonChannel) : c.falling = false ↔ c.s2 = false ∨ c.s1 = true := by
  simp [ButtonChannel.falling, imp_iff_not_or]

theorem ButtonChannel.debounce_of_accepts {never : Bool} {now : Word32} {c : ButtonChannel}
    (h : c.accepts never now = true) : c.debounce never now = { c with flag := true, ts := now, seen := true } :=
  if_pos h

theorem ButtonChannel.debounce_of_rejects {never : Bool} {now : Word32} {c : ButtonChannel}
    (h : c.accepts never now = false) : c.debounce never now = c := by
  simp [ButtonChannel.debounce, h]

/-- A tick with an edge: an accepted one sets the three elements, a rejected one keeps them (R134, R136). -/
theorem ButtonChannel.step_on_edge (never : Bool) (now : Word32) (pin : Bool) {c : ButtonChannel}
    (h2 : c.s2 = true) (h1 : c.s1 = false) :
    if 200 ≤ (now.toNat + 2 ^ 32 - c.ts.toNat) % 2 ^ 32 ∨ (never = true ∧ c.seen = false)
    then (c.step never now pin).flag = true ∧ (c.step never now pin).ts = now ∧ (c.step never now pin).seen = true
    else (c.step never now pin).flag = c.flag ∧ (c.step never now pin).ts = c.ts ∧
      (c.step never now pin).seen = c.seen := by
  rw [ButtonChannel.step_of_falling h2 h1]
  split
  case isTrue h =>
    rw [ButtonChannel.debounce_of_accepts ((c.accepts_iff_mod never now).mpr h)]
    exact ⟨rfl, rfl, rfl⟩
  case isFalse h =>
    rw [ButtonChannel.debounce_of_rejects (Bool.eq_false_iff.mpr (mt (c.accepts_iff_mod never now).mp h))]
    exact ⟨rfl, rfl, rfl⟩

/-- A tick without an edge moves the flops only (R132, R133). -/
theorem ButtonChannel.step_of_no_edge (never : Bool) (now : Word32) (pin : Bool) {c : ButtonChannel}
    (h : c.s2 = false ∨ c.s1 = true) : c.step never now pin = c.sample pin := by
  simp [ButtonChannel.step, c.falling_eq_false_iff.mpr h]

/-- Settles O47: the transition of each channel in the tick of a block that runs. -/
theorem debounceTransition : Obligations.DebounceTransition := by
  intro s p he hh
  obtain ⟨t, ht, ha, hb⟩ := step_buttons he hh
  refine ⟨t, ht, ?_⟩
  rw [ha, hb]
  exact ⟨ButtonChannel.step_on_edge _ _ _, ButtonChannel.step_on_edge _ _ _⟩

/-- Settles O48: a halted block freezes the channel, one that runs moves its flops. -/
theorem noEdgeNoChange : Obligations.NoEdgeNoChange := by
  intro s p he
  obtain ⟨t, ht, ⟨-, ha, hb⟩ | ⟨-, ha, hb⟩⟩ := step_buttons_cases he
  · exact ⟨t, ht, by simp [ha], by simp [hb]⟩
  · refine ⟨t, ht, fun h => ?_, fun h => ?_⟩
    · rw [ha, ButtonChannel.step_of_no_edge _ _ _ h]
      exact ⟨rfl, rfl, rfl⟩
    · rw [hb, ButtonChannel.step_of_no_edge _ _ _ h]
      exact ⟨rfl, rfl, rfl⟩

/-- Once an edge has been seen, the elapsed time alone decides, whatever `TS_NEVER_AT_RESET` says (R134). -/
theorem ButtonChannel.accepts_iff_of_seen {never : Bool} {now : Word32} {c : ButtonChannel} (h : c.seen = true) :
    c.accepts never now = true ↔ 200 ≤ (now - c.ts).toNat := by
  simp [ButtonChannel.accepts_iff, h]

/-- Settles O51: the first edge leaves `TS = t1` and `SEEN = 1`, so the second is judged by `t2 - t1`. -/
theorem twoEdges : Obligations.TwoEdges := by
  intro never c t1 t2 h
  rw [ButtonChannel.debounce_of_accepts h]
  have hsecond := ButtonChannel.accepts_iff_of_seen (never := never) (now := t2)
    (c := { c with flag := true, ts := t1, seen := true }) rfl
  constructor
  · intro hlt
    exact ButtonChannel.debounce_of_rejects (Bool.eq_false_iff.mpr (mt hsecond.mp (Nat.not_le.mpr hlt)))
  · intro hge
    rw [ButtonChannel.debounce_of_accepts (hsecond.mpr hge)]
    exact ⟨rfl, rfl⟩

/-- At reset the timestamp is 0 and nothing has been seen, so the test reads `now` itself (R135). -/
theorem ButtonChannel.atReset_accepts_iff (never : Bool) (now : Word32) :
    ButtonChannel.atReset.accepts never now = true ↔ 200 ≤ now.toNat ∨ never = true := by
  simp [ButtonChannel.accepts_iff, ButtonChannel.atReset]

/-- Settles O52: from 200 ms on both readings accept, and an accepted edge writes the same in both. -/
theorem firstEdgeAfterReset : Obligations.FirstEdgeAfterReset := by
  intro now
  refine ⟨by simp [ButtonChannel.atReset_accepts_iff], by simp [ButtonChannel.atReset_accepts_iff], fun h => ?_⟩
  have haccepts (never : Bool) : ButtonChannel.atReset.accepts never now = true :=
    (ButtonChannel.atReset_accepts_iff never now).mpr (.inl h)
  rw [ButtonChannel.debounce_of_accepts (haccepts false), ButtonChannel.debounce_of_accepts (haccepts true)]

/-! ## The channels' independence (R138) -/

/-- Settles O50: a reset sets both channels, a halted tick keeps them, and any other tick is each channel's own step. -/
theorem channelIndependence : Obligations.ChannelIndependence := by
  intro s s' t t' h h' he hh hp
  cases hev : s.event with
  | reset =>
    obtain rfl : s.applyReset = t := by simpa [step, State.tickKind_reset hev] using h
    obtain rfl : s'.applyReset = t' := by simpa [step, State.tickKind_reset (he ▸ hev)] using h'
    exact ⟨fun _ => rfl, fun _ => rfl⟩
  | tick p =>
    obtain ⟨u, hu, hcases⟩ := step_buttons_cases hev
    obtain ⟨u', hu', hcases'⟩ := step_buttons_cases (he ▸ hev : s'.event = .tick p)
    obtain rfl : t = u := Host.Outcome.next.inj (h.symm.trans hu)
    obtain rfl : t' = u' := Host.Outcome.next.inj (h'.symm.trans hu')
    rw [← hh, ← hp] at hcases'
    obtain ⟨hs, ha, hb⟩ | ⟨hs, ha, hb⟩ := hcases
    · obtain ⟨-, ha', hb'⟩ | ⟨hs', -⟩ := hcases'
      · rw [ha, hb, ha', hb']
        exact ⟨id, id⟩
      · simp [hs] at hs'
    · obtain ⟨hs', -⟩ | ⟨-, ha', hb'⟩ := hcases'
      · simp [hs] at hs'
      · rw [ha, hb, ha', hb']
        exact ⟨fun hc => hc ▸ rfl, fun hc => hc ▸ rfl⟩

/-! ## The level (R141, R142) -/

/-- Register 1 is `LEVEL`: A in bit 0, B in bit 1 (R152). -/
theorem regRead_level (s : State) :
    regRead s 0x01 = BitVec.ofNat 32 (s.btnA.level.toNat + 2 * s.btnB.level.toNat) := by
  change (levelWord s).setWidth 32 = _
  unfold levelWord
  cases s.btnA.level <;> cases s.btnB.level <;> rfl

/-- The transition on an edge moves no flop, so the level read stays (R134, R141). -/
theorem State.edge_levels (ch : Channel) (now : Word32) (s : State) :
    (s.edge ch now).btnA.level = s.btnA.level ∧ (s.edge ch now).btnB.level = s.btnB.level := by
  cases ch <;> simp [State.edge, ButtonChannel.level]

theorem State.foldl_edge_levels (edges : List (Channel × Word32)) (s : State) :
    (edges.foldl (fun x e => x.edge e.1 e.2) s).halt = s.halt ∧
    (edges.foldl (fun x e => x.edge e.1 e.2) s).btnA.level = s.btnA.level ∧
    (edges.foldl (fun x e => x.edge e.1 e.2) s).btnB.level = s.btnB.level := by
  induction edges generalizing s with
  | nil => exact ⟨rfl, rfl, rfl⟩
  | cons e edges ih =>
    obtain ⟨hh, ha, hb⟩ := ih (s.edge e.1 e.2)
    obtain ⟨ea, eb⟩ := s.edge_levels e.1 e.2
    exact ⟨hh.trans (s.edge_halt e.1 e.2), ha.trans ea, hb.trans eb⟩

/-- `RD` at the transaction level responds with the register's value, and nothing goes out on the line (R93, R150). -/
theorem txStep_rd {s : State} {w : CommandWord} {n : Byte} (tg : BitVec 2) (hh : s.halt = false)
    (hd : decode w = .ok (.rd n)) :
    ∃ u, txStep (.command w tg) s = .next (u, []) ∧ u.rsp = ⟨true, regRead s n⟩ := by
  obtain ⟨t, heff, htx⟩ := txStep_command tg hh hd
  have hser : t.ser = s.ser := by
    obtain ⟨hstart, -⟩ | ⟨-, hser⟩ := heff.startsFrame_cases
    · simp [startsFrame] at hstart
    · exact hser
  have hrsp : t.rsp = ⟨true, regRead s n⟩ := by
    obtain ⟨m, hm, hrsp⟩ | ⟨hn, -⟩ := heff.rsp_cases
    · cases hm; exact hrsp
    · exact absurd rfl (hn n)
  rw [lineEvents_of_ser_eq hser] at htx
  exact ⟨_, htx, hrsp⟩

/-- Settles O60: `TICK` sets the flops to the pins, and no edge moves them. -/
theorem transactionLevelReadsThePins : Obligations.TransactionLevelReadsThePins := by
  intro s a b edges tg hh
  have htick : txStep (.tick a b) s = .next ((s.clearResponse.samplePins a b).settle, []) := by
    simp [txStep, hh]
  obtain ⟨hh', ha, hb⟩ := State.foldl_edge_levels edges (s.clearResponse.samplePins a b).settle
  have hd : decode 0x5001#16 = .ok (.rd 0x01) := rfl
  obtain ⟨u, hu, hrsp⟩ := txStep_rd tg (hh'.trans hh) hd
  refine ⟨_, u, htick, hu, ?_⟩
  rw [hrsp, regRead_level, ha, hb]
  simp

/-- A tick at time `now` with pin A at this level, no word offered and B released. -/
def pinATick (now : Word32) (pin : Bool) : Event := .tick { Ports.quiet with nowMs := now, btnAN := pin }

/-- Settles O56: a press within the first 200 ms is rejected while the button is held, and a press at 1000 ms is
accepted as the button is already released. -/
theorem levelAndFlagDisagree : Obligations.LevelAndFlagDisagree :=
  ⟨⟨⟨[pinATick 0 false, pinATick 0 false, pinATick 0 false], 0⟩, 3, _, rfl, rfl, rfl⟩,
   ⟨⟨[pinATick 1000 false, pinATick 1000 true, pinATick 1000 true], 0⟩, 3, _, rfl, rfl, rfl⟩⟩

end Sys2Proof.Machine

/-! PROOFS. The register read (`43_register_read.md`): what `RD` answers for a defined and for a reserved number (R150,
R158), the value of each register (R151 to R157), and the answers of `RD` put together from the two. -/

namespace Sys2Proof.Machine

/-! ## The register numbers (`20_memory.md` R50) -/

/-- A pixel's register number as the sum of bytes, the form of `pixelOf_eq`. -/
theorem byte_ofNat_pixel (i : Fin 25) : BitVec.ofNat 8 (0x10 + i.val) = 0x10 + BitVec.ofNat 8 i :=
  BitVec.ofNat_add ..

/-- The numbers between the two blocks of registers and those above the pixels are reserved (R158). -/
theorem registerDefined_eq_false_iff (n : Byte) :
    registerDefined n = false ↔ (0x06 ≤ n.toNat ∧ n.toNat ≤ 0x0F) ∨ 0x29 ≤ n.toNat := by
  by_cases h : 0x10 ≤ n.toNat ∧ n.toNat ≤ 0x28
  all_goals simp [registerDefined, pixelOf, h]; omega

theorem registerDefined_pixel (i : Fin 25) : registerDefined (0x10 + BitVec.ofNat 8 i) = true := by
  rw [registerDefined, pixelOf_eq]
  exact Bool.or_true _

/-! ## What `RD` answers (R150, R158) -/

/-- `RD` of a defined number writes the response register only. -/
theorem exec_rd_of_defined {n : Byte} {s : State} {v : Word32} (hn : registerDefined n = true)
    (hv : regRead s n = v) : exec (.rd n) s = .next { s with rsp := ⟨true, v⟩ } := by
  subst hv
  obtain ⟨-, h⟩ | ⟨h, -⟩ := execRd_cases n s
  · exact h
  · simp [hn] at h

/-- `RD` of a reserved number also raises `IllegalCommand`. -/
theorem exec_rd_of_reserved {n : Byte} {s : State} {v : Word32} (hn : registerDefined n = false)
    (hv : regRead s n = v) :
    exec (.rd n) s = .next { s with rsp := ⟨true, v⟩, err := { s.err with ill := true } } := by
  subst hv
  obtain ⟨h, -⟩ | ⟨-, h⟩ := execRd_cases n s
  · simp [hn] at h
  · exact h

/-! ## The registers' values (R151 to R158) -/

/-- A flag appended to a word is its lowest bit. -/
theorem toNat_append_ofBool {w : Nat} (x : BitVec w) (b : Bool) :
    (x ++ BitVec.ofBool b).toNat = 2 * x.toNat + b.toNat := by
  rw [BitVec.toNat_append, BitVec.toNat_ofBool, ← Nat.shiftLeft_add_eq_or_of_lt b.toNat_lt, Nat.shiftLeft_eq]
  omega

/-- Register 0 is `STATUS` (R151). -/
theorem regRead_status (s : State) :
    regRead s 0x00 = BitVec.ofNat 32 (s.drv.initOk.toNat + 2 * s.drv.tgSel.toNat + 16 * s.err.range.toNat +
      32 * s.err.seq.toNat + 64 * s.err.ill.toNat) := by
  change (statusWord s).setWidth 32 = _
  rw [← BitVec.ofNat_toNat]
  congr 1
  rw [statusWord, toNat_append_ofBool, toNat_append_ofBool, BitVec.toNat_append, toNat_append_ofBool,
    toNat_append_ofBool, BitVec.toNat_ofBool, BitVec.toNat_ofNat, Nat.zero_mod, Nat.or_zero, Nat.shiftLeft_eq]
  omega

/-- Register 2 is `FLAGS`: A in bit 0, B in bit 1 (R153). -/
theorem regRead_flags (s : State) :
    regRead s 0x02 = BitVec.ofNat 32 (s.btnA.flag.toNat + 2 * s.btnB.flag.toNat) := by
  change (flagsWord s).setWidth 32 = _
  rw [← BitVec.ofNat_toNat, flagsWord, toNat_append_ofBool, BitVec.toNat_ofBool, Nat.add_comm]

/-- Register 3 is `TS_A` (R154). -/
theorem regRead_tsA (s : State) : regRead s 0x03 = s.btnA.ts := rfl

/-- Register 4 is `TS_B` (R155). -/
theorem regRead_tsB (s : State) : regRead s 0x04 = s.btnB.ts := rfl

/-- Register 5 is `PIN` (R156). -/
theorem regRead_pin (s : State) : regRead s 0x05 = BitVec.ofNat 32 s.drv.pin.toNat := by
  rw [BitVec.ofNat_toNat]
  rfl

/-- Outside registers 0 to 5 the number names a pixel or nothing. -/
theorem regRead_of_six_le {n : Byte} (s : State) (h : 6 ≤ n.toNat) :
    regRead s n = (pixelOf n).elim 0 fun i => s.pix[i].setWidth 32 := by
  have hne (k : Byte) (hk : k.toNat < 6) : n ≠ k := by rintro rfl; omega
  cases hp : pixelOf n <;>
    simp [regRead, hp, hne 0#8 (by decide), hne 1#8 (by decide), hne 2#8 (by decide), hne 3#8 (by decide),
      hne 4#8 (by decide), hne 5#8 (by decide)]

/-- Register `0x10 + i` is `PIX[i]` (R157). -/
theorem regRead_pixel (s : State) (i : Fin 25) :
    regRead s (0x10 + BitVec.ofNat 8 i) = BitVec.ofNat 32 s.pix[i].toNat := by
  have hsix : 6 ≤ (0x10 + BitVec.ofNat 8 i : Byte).toNat := by
    rw [← byte_ofNat_pixel, BitVec.toNat_ofNat]; omega
  rw [regRead_of_six_le s hsix, pixelOf_eq, BitVec.ofNat_toNat]
  rfl

/-- A reserved number reads 0 (R158). -/
theorem regRead_of_reserved {n : Byte} (s : State) (h : registerDefined n = false) : regRead s n = 0 := by
  obtain ⟨hsix, hnone⟩ : 6 ≤ n.toNat ∧ pixelOf n = none := by
    simpa [registerDefined, Nat.lt_iff_add_one_le] using h
  rw [regRead_of_six_le s hsix, hnone]
  rfl

/-! ## The answers -/

/-- Settles O19: register 0 is defined and holds `STATUS`. -/
theorem rdStatus : Obligations.RdStatus := fun s => exec_rd_of_defined rfl (regRead_status s)

/-- Settles O20: the level that register 1 holds is the inverse of `S1`. -/
theorem rdLevelAndFlags : Obligations.RdLevelAndFlags := fun s =>
  ⟨exec_rd_of_defined rfl (regRead_level s), exec_rd_of_defined rfl (regRead_flags s)⟩

/-- Settles O21: registers 3 to 5 and the 25 pixels' numbers are defined, and each holds its element whole. -/
theorem rdTimestampsPinAndPixels : Obligations.RdTimestampsPinAndPixels := fun s =>
  ⟨exec_rd_of_defined rfl (regRead_tsA s), exec_rd_of_defined rfl (regRead_tsB s),
   exec_rd_of_defined rfl (regRead_pin s),
   fun i => byte_ofNat_pixel i ▸ exec_rd_of_defined (registerDefined_pixel i) (regRead_pixel s i)⟩

/-- Settles O22: exactly the reserved numbers are undefined, and an undefined number reads 0. -/
theorem rdReservedNumber : Obligations.RdReservedNumber := fun n s h =>
  have hn := (registerDefined_eq_false_iff n).mpr h
  exec_rd_of_reserved hn (regRead_of_reserved s hn)

end Sys2Proof.Machine

/-! PROOFS. The exceptions (`60_exceptions.md`): the cause of each and its whole effect (R181 to R184), the tick after
an accepted word (R189), the sticky flags (R190), and the disjoint writes of commands and channels (R191). -/

namespace Sys2Proof.Machine

/-! ## The error bits of `STATUS` (R186) -/

theorem statusWord_err_range (s : State) : (statusWord s).getLsbD 4 = s.err.range := by
  simp only [statusWord, BitVec.getLsbD_append]
  simp

theorem statusWord_err_seq (s : State) : (statusWord s).getLsbD 5 = s.err.seq := by
  simp only [statusWord, BitVec.getLsbD_append]
  simp

theorem statusWord_err_ill (s : State) : (statusWord s).getLsbD 6 = s.err.ill := by
  simp only [statusWord, BitVec.getLsbD_append]
  simp

/-! ## The effect of a command -/

/-- What a command answers is one of its effects. -/
theorem Effect.of_exec {i : Instr} {s t : State} (h : exec i s = .next t) : Effect i s t := by
  obtain ⟨u, hu, heff⟩ := exec_cases i s
  rw [hu] at h
  cases h
  exact heff

/-- A command changes `ERR_RANGE` only as an out-of-range `DIG` (R181). -/
theorem Effect.err_range_changed {i : Instr} {s t : State} (h : Effect i s t) (hne : t.err.range ≠ s.err.range) :
    ∃ d, i = .dig d ∧ digitOf d = none := by
  cases h with
  | range d hi hd | both d hi hd => exact ⟨d, hi, hd⟩
  | _ => simp at hne

/-- A command changes `HALT` only as an `INIT` that finds no pool free (R184). -/
theorem Effect.halt_changed {i : Instr} {s t : State} (h : Effect i s t) (hne : t.halt ≠ s.halt) :
    ∃ pin, i = .init pin ∧ s.drv.initOk = false ∧ s.ports.tgAvail = 0 := by
  cases h with
  | fatal pin hi hok htg => exact ⟨pin, hi, hok, htg⟩
  | _ => simp at hne

/-! ## `RangeError` and `SequenceError` (R181, R182) -/

/-- An out-of-range digit is a range error, and before `INIT` a sequence error too (R188). -/
theorem exec_dig_of_ten_le {d : Byte} (hd : 10 ≤ d.toNat) (s : State) :
    exec (.dig d) s = if s.drv.initOk then .next (s.raise .rangeError)
      else .next ((s.raise .rangeError).raise .sequenceError) := by
  simp only [exec, execDig, digitOf_eq_none.mpr hd]

/-- Settles O14: the two answers of an out-of-range `DIG`, and no other effect writes the flag. -/
theorem outOfRangeDigitIsRejected : Obligations.OutOfRangeDigitIsRejected := by
  refine ⟨fun d s hd h => ?_, fun d s hd h => ?_, fun i s t ht hne => ?_, statusWord_err_range⟩
  · simp [exec_dig_of_ten_le hd, h, State.raise]
  · simp [exec_dig_of_ten_le hd, h, State.raise]
  · obtain ⟨d, hi, hd⟩ := (Effect.of_exec ht).err_range_changed hne
    exact ⟨d, hi, digitOf_eq_none.mp hd⟩

/-- Settles O12: before `INIT` a legal digit is not displayed, whichever command brings it; the other causes are those
of `WR`, of an out-of-range `DIG` and of a second `INIT`. -/
theorem sequenceErrors : Obligations.SequenceErrors := by
  refine fun s => ⟨fun h => ⟨(wrSendsTheBuffer s).2 h, fun d hd => ?_, fun d hd => ?_, fun c hlo hhi => ?_⟩,
    fun h pin => secondInitOnlySetsErrSeq pin s h, statusWord_err_seq s⟩
  · rw [exec_dig_of_le hd, State.display_of_not_initOk _ h]
    rfl
  · simp [exec_dig_of_ten_le hd, h, State.raise]
  · rw [exec_chr_of_ascii_digit ⟨hlo, hhi⟩, State.display_of_not_initOk _ h]
    rfl

/-! ## `IllegalCommand` (R183) -/

/-- Settles O25: the tick of an accepted illegal word with its end written out, and `RD` of a reserved number. -/
theorem illegalCommands : Obligations.IllegalCommands := by
  refine ⟨fun s p e he hh hs hv hd => ?_, fun s n hn => rdReservedNumber n s hn, statusWord_err_ill⟩
  have hev : (s.clearResponse.raise .illegalCommand).event = .tick p := he
  rw [step_illegal he hh hs hv hd, State.finishTick_of_tick hev]
  rfl

/-! ## `FatalNoTimingGenerator` and the halted state (R184) -/

theorem State.dout_of_halted {s : State} (h : s.halt = true) : s.dout = false := by
  cases hp : s.ser.phase <;> simp [State.dout, hp, h]

/-- Settles O28: the first row of the claim table, and the frozen tick. -/
theorem haltedBlockIsFrozen : Obligations.HaltedBlockIsFrozen := by
  refine ⟨fun pin s h => (initClaimTable pin s h).1, fun s p hh he => ?_⟩
  refine ⟨?_, ?_, ?_, step_frozen he hh⟩ <;>
    simp [State.outputs, he, State.cmdReady_of_tick he, State.dout_of_halted hh, hh]

/-- Settles O29: of the cases of a step only a command's effect can set `HALT`, and that effect is the fatal one. -/
theorem onlyAFailingInitHalts : Obligations.OnlyAFailingInitHalts := by
  intro s t h hs ht
  cases StepCase.of_step h with
  | reset => cases ht
  | frozen | quiet | illegal => simp [hs] at ht
  | run p i u he hh hidle hv hd heff =>
    have hne : u.halt ≠ s.clearResponse.halt := by simpa [hs] using ht
    obtain ⟨pin, rfl, hok, htg⟩ := heff.halt_changed hne
    exact ⟨pin, State.tickKind_run he hh hidle hv hd, hok, htg⟩

/-! ## The tick after an accepted word (R189) -/

theorem State.quiescent_of_tick {s : State} {p : Ports} (he : s.event = .tick p) :
    s.quiescent = (decide (s.ser.phase = .idle) && !s.halt && !p.cmdValid) := by
  simp [State.quiescent, he]

/-- Settles O26: without a frame the serializer is as the accepting tick found it, which is idle. -/
theorem otherCommandsTakeOneTick : Obligations.OtherCommandsTakeOneTick := by
  intro s p q he ha hn hq
  obtain ⟨-, hs, -⟩ := State.accepts_spec he ha
  obtain ⟨t, ht, -⟩ := step_cases s
  obtain ⟨-, -, hkeeps⟩ := idleSerializer s p hs he
  have hidle : t.ser.phase = .idle := by rw [hkeeps t ht hn]; exact hs
  have hev : t.event = .tick q := by rw [State.event, step_env ht, Env.upcoming_advance]; exact hq
  exact ⟨t, ht, hidle, fun hh => by simp [State.cmdReady_of_tick hev, hidle, hh],
    fun hh hv => by simp [State.quiescent_of_tick hev, hidle, hh, hv]⟩

/-! ## The sticky flags (R190) -/

/-- Every error flag that is set in `s`, and `HALT`, is set in `t` too. -/
structure State.KeepsFaults (s t : State) : Prop where
  range : s.err.range = true → t.err.range = true
  seq   : s.err.seq = true → t.err.seq = true
  ill   : s.err.ill = true → t.err.ill = true
  halt  : s.halt = true → t.halt = true

theorem State.KeepsFaults.of_eq {s t : State} (he : t.err = s.err) (hh : t.halt = s.halt) : s.KeepsFaults t := by
  constructor <;> simp [he, hh]

theorem State.KeepsFaults.trans {s t u : State} (h : s.KeepsFaults t) (h' : t.KeepsFaults u) : s.KeepsFaults u :=
  ⟨h'.range ∘ h.range, h'.seq ∘ h.seq, h'.ill ∘ h.ill, h'.halt ∘ h.halt⟩

theorem State.KeepsFaults.raise (e : Exn) (s : State) : s.KeepsFaults (s.raise e) := by
  cases e <;> constructor <;> simp +contextual

theorem State.KeepsFaults.faulted {s t : State} (h : s.KeepsFaults t) (hs : s.faulted = true) : t.faulted = true := by
  simp only [State.faulted, Bool.or_eq_true] at hs ⊢
  exact hs.imp (Or.imp (Or.imp h.halt h.range) h.seq) h.ill

/-- A command writes a flag or `HALT` only by raising an exception. -/
theorem Effect.keepsFaults {i : Instr} {s t : State} (h : Effect i s t) : s.KeepsFaults t := by
  cases h with
  | sequence | fatal | range => exact .raise _ s
  | both => exact (State.KeepsFaults.raise _ s).trans (.raise _ _)
  | claim | send | display | nothing | read => exact .of_eq (by simp) (by simp)
  | readReserved => exact State.KeepsFaults.trans (t := s.respond _) (.of_eq rfl rfl) (.raise _ _)

theorem StepCase.keepsFaults {s t : State} {p : Ports} (hc : StepCase s t) (he : s.event = .tick p) :
    s.KeepsFaults t := by
  have hclear : s.KeepsFaults s.clearResponse := .of_eq rfl rfl
  have hfinish (u : State) : u.KeepsFaults u.finishTick := .of_eq rfl rfl
  cases hc with
  | reset hr => simp [he] at hr
  | frozen | quiet => exact .of_eq rfl rfl
  | illegal => exact (hclear.trans (.raise _ _)).trans (hfinish _)
  | run _ i u _ _ _ _ _ heff => exact (hclear.trans heff.keepsFaults).trans (hfinish u)

/-- Settles O31: every case of a tick keeps the set flags, so a faulted state stays faulted. -/
theorem errorFlagsAreSticky : Obligations.ErrorFlagsAreSticky := by
  intro s t p he h
  have hk := (StepCase.of_step h).keepsFaults he
  exact ⟨hk.range, hk.seq, hk.ill, hk.halt, hk.faulted⟩

/-! ## The two contexts (R191) -/

/-- Settles O34: the frame of a command's effect, and the two fields that the channels' tick writes. -/
theorem contextsWriteDisjointState : Obligations.ContextsWriteDisjointState := by
  refine ⟨fun i s t h => ?_, fun s => rfl⟩
  obtain ⟨ha, hb, hpar, -⟩ := (Effect.of_exec h).frame
  exact ⟨ha, hb, hpar, (Effect.of_exec h).env_eq⟩

end Sys2Proof.Machine

/-! PROOFS. Reset and hazards (`70_reset_and_hazards.md`): what a reset answers from any state (R210), and a button held
across reset (R212). -/

namespace Sys2Proof.Machine

/-! ## Reset (R210) -/

/-- Reset wins over whatever else the state would do (`60_exceptions.md` R188). -/
theorem step_reset {s : State} (he : s.event = .reset) : step s = .next s.applyReset := by
  simp only [step, State.tickKind_reset he]

theorem State.cmdReady_of_reset {s : State} (he : s.event = .reset) : s.cmdReady = false := by
  simp only [State.cmdReady, he]

theorem State.outputs_of_reset {s : State} (he : s.event = .reset) : s.outputs = ⟨false, false, 0, false, false⟩ := by
  simp only [State.outputs, he]

/-- Settles O8: the ports while `rst_n = 0`, and the step, which is `applyReset`. -/
theorem resetReplacesTheState : Obligations.ResetReplacesTheState := fun _ he =>
  ⟨State.cmdReady_of_reset he, State.outputs_of_reset he, step_reset he⟩

/-! ## A button held across reset (R212) -/

/-- After one tick from the released flops no edge is there yet: the pin has come as far as `S0_X`. -/
theorem ButtonChannel.step_atReset_no_edge (never : Bool) (now : Word32) (pin : Bool) :
    (atReset.step never now pin).falling = false ∧ (atReset.step never now pin).level = false := by
  simp [falling, level, atReset]

/-- An edge follows a tick that finds `S0_X` pressed and `S1_X` released, whatever the pin is on it
(`10_state.md` R24). -/
theorem ButtonChannel.step_edge_of_flops (never : Bool) (now : Word32) (pin : Bool) {c : ButtonChannel}
    (h0 : c.s0 = false) (h1 : c.s1 = true) :
    (c.step never now pin).falling = true ∧ (c.step never now pin).level = true := by
  simp [falling, level, h0, h1]

/-- Settles O55: the low pin is in `S0_A` after the first tick and in `S1_A` after the second, with `S2_A` still
released, so the third tick finds the edge. -/
theorem buttonHeldAcrossReset : Obligations.ButtonHeldAcrossReset := by
  intro s p0 p1 hA hh h0 h1 hp0 _
  obtain ⟨u, hu, huA, -⟩ := step_buttons h0 hh
  rw [hA] at huA
  have hs0 : u.btnA.s0 = false := by rw [huA, ButtonChannel.step_s0, hp0]
  have hs1 : u.btnA.s1 = true := by rw [huA, ButtonChannel.step_s1]; rfl
  have he : u.event = .tick p1 := by rw [State.event, step_env hu, Env.upcoming_advance, h1]
  obtain ⟨hfall, hlevel⟩ := huA ▸ ButtonChannel.step_atReset_no_edge s.par.tsNeverAtReset p0.nowMs p0.btnAN
  obtain ⟨v, hv, hcase⟩ := step_buttons_cases he
  refine ⟨by rw [hA]; rfl, by rw [hA]; rfl, u, v, hu, hfall, hlevel, fun hrun => ?_⟩
  obtain ⟨hhalt, -⟩ | ⟨-, hvA, -⟩ := hcase
  · exact absurd (hrun.symm.trans hhalt) (by decide)
  · exact ⟨hv, hvA ▸ ButtonChannel.step_edge_of_flops _ _ _ hs0 hs1⟩

end Sys2Proof.Machine
